-- ==== Sys2Proof/Config.lean ====
section
/-! DEFINITION. The parameters of 00_scope R11, the platform's choices, and the one free value. They are fixed for a machine;
a state carries them in its field `cfg`, which no step changes, so that a statement about every state is a statement about
every value of every parameter (log 1). -/

namespace Sys2Proof

/-- `XLEN`, the width of a scalar value: 32 or 64 (00_scope R11). -/
inductive Xlen where
  | x32
  | x64
  deriving DecidableEq, Repr

def Xlen.bits : Xlen → Nat
  | .x32 => 32
  | .x64 => 64

/-- `MASK_DEST_POLICY` (00_scope R11, 40_element_engine R405). -/
inductive MaskDestPolicy where
  | firstTouch
  | byteStart
  | agnostic
  deriving DecidableEq, Repr

/-- The parameters of one machine. -/
structure Config where
  /-- `VLENB`, bytes per vector register, `VLEN / 8` (00_scope R11). -/
  vlenb : Nat
  xlen : Xlen
  maskDestPolicy : MaskDestPolicy
  /-- `NCLIP_SATURATES` (00_scope R11, 45_fixed_point R850). -/
  nclipSaturates : Bool
  /-- `RED_WRITES_EMPTY` (00_scope R11, 47_reductions R951). -/
  redWritesEmpty : Bool
  /-- `xtval` of an illegal instruction is its word (true) or 0 (false): the platform's choice (60_exceptions R1206; log 11). -/
  illegalTvalIsWord : Bool
  /-- The scalar CPU's implementation-defined reset vector (70_reset R1300; log 8). -/
  resetVector : Nat
  deriving DecidableEq, Repr

/-- `NUM_VREGS` (00_scope R11). -/
def numVregs : Nat := 32

/-- `ELEN` (00_scope R11). -/
def elen : Nat := 64

/-- The values the spec allows the parameters: VLEN a power of two and at least ELEN (00_scope R11), small enough for the
XLEN-bit `vstart` to hold `VLEN - 1` (10_state R113). -/
def Config.wf (c : Config) : Bool :=
  8 ≤ c.vlenb && 2 ^ Nat.log2 c.vlenb == c.vlenb && 8 * c.vlenb ≤ 2 ^ c.xlen.bits && c.resetVector < 2 ^ c.xlen.bits

/-- The machine of the reset state: the spec's default policies, and values chosen for the parameters it leaves OPEN.
DESIGN CHOICE (log 1, log 8, log 11). -/
def Config.default : Config where
  vlenb := 16
  xlen := .x64
  maskDestPolicy := .firstTouch
  nclipSaturates := false
  redWritesEmpty := true
  illegalTvalIsWord := true
  resetVector := 0x80000000

/-- The free value of 40_element_engine R405 (`agnostic`: "holds any value (a draw)"): nothing constrains draw `n`. DESIGN
CHOICE (log 6): the draws are numbered by the state's counter `freeDraws`. -/
opaque Config.freeMaskBit : Nat → Bool

end Sys2Proof
end

