-- ==== Sys2Proof/Syntax.lean ====
section
/-! DEFINITION. The instructions: one constructor per row of spec/opcode_table.json (00_scope R10), in the table's order. -/

namespace Sys2Proof

/-- An admitted instruction. A constructor's name is its row's mnemonic with `_` for `.`. Register fields, the raw immediate
`imm5` and the field `nf` (fields per element minus one, 30_encoding R311) are numbers, bounded by `Instr.wf`; `vm` is the
mask-enable bit, true for unmasked (30_encoding R313), and is absent where the encoding fixes it. `vd`, `vs1`, `vs2`, `vs3`
are vector registers, `rs1`, `rs2` scalar registers (30_encoding R304, R306, R307). -/
inductive Instr where
  | vadd_vv (vm : Bool) (vd vs2 vs1 : Nat)
  | vadd_vx (vm : Bool) (vd vs2 rs1 : Nat)
  | vadd_vi (vm : Bool) (vd vs2 imm5 : Nat)
  | vsub_vv (vm : Bool) (vd vs2 vs1 : Nat)
  | vsub_vx (vm : Bool) (vd vs2 rs1 : Nat)
  | vrsub_vx (vm : Bool) (vd vs2 rs1 : Nat)
  | vrsub_vi (vm : Bool) (vd vs2 imm5 : Nat)
  | vminu_vv (vm : Bool) (vd vs2 vs1 : Nat)
  | vminu_vx (vm : Bool) (vd vs2 rs1 : Nat)
  | vmin_vv (vm : Bool) (vd vs2 vs1 : Nat)
  | vmin_vx (vm : Bool) (vd vs2 rs1 : Nat)
  | vmaxu_vv (vm : Bool) (vd vs2 vs1 : Nat)
  | vmaxu_vx (vm : Bool) (vd vs2 rs1 : Nat)
  | vmax_vv (vm : Bool) (vd vs2 vs1 : Nat)
  | vmax_vx (vm : Bool) (vd vs2 rs1 : Nat)
  | vand_vv (vm : Bool) (vd vs2 vs1 : Nat)
  | vand_vx (vm : Bool) (vd vs2 rs1 : Nat)
  | vand_vi (vm : Bool) (vd vs2 imm5 : Nat)
  | vor_vv (vm : Bool) (vd vs2 vs1 : Nat)
  | vor_vx (vm : Bool) (vd vs2 rs1 : Nat)
  | vor_vi (vm : Bool) (vd vs2 imm5 : Nat)
  | vxor_vv (vm : Bool) (vd vs2 vs1 : Nat)
  | vxor_vx (vm : Bool) (vd vs2 rs1 : Nat)
  | vxor_vi (vm : Bool) (vd vs2 imm5 : Nat)
  | vrgather_vv (vm : Bool) (vd vs2 vs1 : Nat)
  | vrgather_vx (vm : Bool) (vd vs2 rs1 : Nat)
  | vrgather_vi (vm : Bool) (vd vs2 imm5 : Nat)
  | vslideup_vx (vm : Bool) (vd vs2 rs1 : Nat)
  | vslideup_vi (vm : Bool) (vd vs2 imm5 : Nat)
  | vslidedown_vx (vm : Bool) (vd vs2 rs1 : Nat)
  | vslidedown_vi (vm : Bool) (vd vs2 imm5 : Nat)
  | vadc_vvm (vd vs2 vs1 : Nat)
  | vadc_vxm (vd vs2 rs1 : Nat)
  | vadc_vim (vd vs2 imm5 : Nat)
  | vmadc_vvm (vd vs2 vs1 : Nat)
  | vmadc_vxm (vd vs2 rs1 : Nat)
  | vmadc_vim (vd vs2 imm5 : Nat)
  | vmadc_vv (vd vs2 vs1 : Nat)
  | vmadc_vx (vd vs2 rs1 : Nat)
  | vmadc_vi (vd vs2 imm5 : Nat)
  | vsbc_vvm (vd vs2 vs1 : Nat)
  | vsbc_vxm (vd vs2 rs1 : Nat)
  | vmsbc_vvm (vd vs2 vs1 : Nat)
  | vmsbc_vxm (vd vs2 rs1 : Nat)
  | vmsbc_vv (vd vs2 vs1 : Nat)
  | vmsbc_vx (vd vs2 rs1 : Nat)
  | vmseq_vv (vm : Bool) (vd vs2 vs1 : Nat)
  | vmseq_vx (vm : Bool) (vd vs2 rs1 : Nat)
  | vmseq_vi (vm : Bool) (vd vs2 imm5 : Nat)
  | vmsne_vv (vm : Bool) (vd vs2 vs1 : Nat)
  | vmsne_vx (vm : Bool) (vd vs2 rs1 : Nat)
  | vmsne_vi (vm : Bool) (vd vs2 imm5 : Nat)
  | vmsltu_vv (vm : Bool) (vd vs2 vs1 : Nat)
  | vmsltu_vx (vm : Bool) (vd vs2 rs1 : Nat)
  | vmslt_vv (vm : Bool) (vd vs2 vs1 : Nat)
  | vmslt_vx (vm : Bool) (vd vs2 rs1 : Nat)
  | vmsleu_vv (vm : Bool) (vd vs2 vs1 : Nat)
  | vmsleu_vx (vm : Bool) (vd vs2 rs1 : Nat)
  | vmsleu_vi (vm : Bool) (vd vs2 imm5 : Nat)
  | vmsle_vv (vm : Bool) (vd vs2 vs1 : Nat)
  | vmsle_vx (vm : Bool) (vd vs2 rs1 : Nat)
  | vmsle_vi (vm : Bool) (vd vs2 imm5 : Nat)
  | vmsgtu_vx (vm : Bool) (vd vs2 rs1 : Nat)
  | vmsgtu_vi (vm : Bool) (vd vs2 imm5 : Nat)
  | vmsgt_vx (vm : Bool) (vd vs2 rs1 : Nat)
  | vmsgt_vi (vm : Bool) (vd vs2 imm5 : Nat)
  | vsaddu_vv (vm : Bool) (vd vs2 vs1 : Nat)
  | vsaddu_vx (vm : Bool) (vd vs2 rs1 : Nat)
  | vsaddu_vi (vm : Bool) (vd vs2 imm5 : Nat)
  | vsadd_vv (vm : Bool) (vd vs2 vs1 : Nat)
  | vsadd_vx (vm : Bool) (vd vs2 rs1 : Nat)
  | vsadd_vi (vm : Bool) (vd vs2 imm5 : Nat)
  | vssubu_vv (vm : Bool) (vd vs2 vs1 : Nat)
  | vssubu_vx (vm : Bool) (vd vs2 rs1 : Nat)
  | vssub_vv (vm : Bool) (vd vs2 vs1 : Nat)
  | vssub_vx (vm : Bool) (vd vs2 rs1 : Nat)
  | vsll_vv (vm : Bool) (vd vs2 vs1 : Nat)
  | vsll_vx (vm : Bool) (vd vs2 rs1 : Nat)
  | vsll_vi (vm : Bool) (vd vs2 imm5 : Nat)
  | vsmul_vv (vm : Bool) (vd vs2 vs1 : Nat)
  | vsmul_vx (vm : Bool) (vd vs2 rs1 : Nat)
  | vsrl_vv (vm : Bool) (vd vs2 vs1 : Nat)
  | vsrl_vx (vm : Bool) (vd vs2 rs1 : Nat)
  | vsrl_vi (vm : Bool) (vd vs2 imm5 : Nat)
  | vsra_vv (vm : Bool) (vd vs2 vs1 : Nat)
  | vsra_vx (vm : Bool) (vd vs2 rs1 : Nat)
  | vsra_vi (vm : Bool) (vd vs2 imm5 : Nat)
  | vssrl_vv (vm : Bool) (vd vs2 vs1 : Nat)
  | vssrl_vx (vm : Bool) (vd vs2 rs1 : Nat)
  | vssrl_vi (vm : Bool) (vd vs2 imm5 : Nat)
  | vssra_vv (vm : Bool) (vd vs2 vs1 : Nat)
  | vssra_vx (vm : Bool) (vd vs2 rs1 : Nat)
  | vssra_vi (vm : Bool) (vd vs2 imm5 : Nat)
  | vnsrl_wv (vm : Bool) (vd vs2 vs1 : Nat)
  | vnsrl_wx (vm : Bool) (vd vs2 rs1 : Nat)
  | vnsrl_wi (vm : Bool) (vd vs2 imm5 : Nat)
  | vnsra_wv (vm : Bool) (vd vs2 vs1 : Nat)
  | vnsra_wx (vm : Bool) (vd vs2 rs1 : Nat)
  | vnsra_wi (vm : Bool) (vd vs2 imm5 : Nat)
  | vnclipu_wv (vm : Bool) (vd vs2 vs1 : Nat)
  | vnclipu_wx (vm : Bool) (vd vs2 rs1 : Nat)
  | vnclipu_wi (vm : Bool) (vd vs2 imm5 : Nat)
  | vnclip_wv (vm : Bool) (vd vs2 vs1 : Nat)
  | vnclip_wx (vm : Bool) (vd vs2 rs1 : Nat)
  | vnclip_wi (vm : Bool) (vd vs2 imm5 : Nat)
  | vwredsumu_vs (vm : Bool) (vd vs2 vs1 : Nat)
  | vwredsum_vs (vm : Bool) (vd vs2 vs1 : Nat)
  | vredsum_vs (vm : Bool) (vd vs2 vs1 : Nat)
  | vredand_vs (vm : Bool) (vd vs2 vs1 : Nat)
  | vredor_vs (vm : Bool) (vd vs2 vs1 : Nat)
  | vredxor_vs (vm : Bool) (vd vs2 vs1 : Nat)
  | vredminu_vs (vm : Bool) (vd vs2 vs1 : Nat)
  | vredmin_vs (vm : Bool) (vd vs2 vs1 : Nat)
  | vredmaxu_vs (vm : Bool) (vd vs2 vs1 : Nat)
  | vredmax_vs (vm : Bool) (vd vs2 vs1 : Nat)
  | vaaddu_vv (vm : Bool) (vd vs2 vs1 : Nat)
  | vaaddu_vx (vm : Bool) (vd vs2 rs1 : Nat)
  | vaadd_vv (vm : Bool) (vd vs2 vs1 : Nat)
  | vaadd_vx (vm : Bool) (vd vs2 rs1 : Nat)
  | vasubu_vv (vm : Bool) (vd vs2 vs1 : Nat)
  | vasubu_vx (vm : Bool) (vd vs2 rs1 : Nat)
  | vasub_vv (vm : Bool) (vd vs2 vs1 : Nat)
  | vasub_vx (vm : Bool) (vd vs2 rs1 : Nat)
  | vslide1up_vx (vm : Bool) (vd vs2 rs1 : Nat)
  | vslide1down_vx (vm : Bool) (vd vs2 rs1 : Nat)
  | vzext_vf8 (vm : Bool) (vd vs2 : Nat)
  | vsext_vf8 (vm : Bool) (vd vs2 : Nat)
  | vzext_vf4 (vm : Bool) (vd vs2 : Nat)
  | vsext_vf4 (vm : Bool) (vd vs2 : Nat)
  | vzext_vf2 (vm : Bool) (vd vs2 : Nat)
  | vsext_vf2 (vm : Bool) (vd vs2 : Nat)
  | vdivu_vv (vm : Bool) (vd vs2 vs1 : Nat)
  | vdivu_vx (vm : Bool) (vd vs2 rs1 : Nat)
  | vdiv_vv (vm : Bool) (vd vs2 vs1 : Nat)
  | vdiv_vx (vm : Bool) (vd vs2 rs1 : Nat)
  | vremu_vv (vm : Bool) (vd vs2 vs1 : Nat)
  | vremu_vx (vm : Bool) (vd vs2 rs1 : Nat)
  | vrem_vv (vm : Bool) (vd vs2 vs1 : Nat)
  | vrem_vx (vm : Bool) (vd vs2 rs1 : Nat)
  | vmulhu_vv (vm : Bool) (vd vs2 vs1 : Nat)
  | vmulhu_vx (vm : Bool) (vd vs2 rs1 : Nat)
  | vmul_vv (vm : Bool) (vd vs2 vs1 : Nat)
  | vmul_vx (vm : Bool) (vd vs2 rs1 : Nat)
  | vmulhsu_vv (vm : Bool) (vd vs2 vs1 : Nat)
  | vmulhsu_vx (vm : Bool) (vd vs2 rs1 : Nat)
  | vmulh_vv (vm : Bool) (vd vs2 vs1 : Nat)
  | vmulh_vx (vm : Bool) (vd vs2 rs1 : Nat)
  | vmadd_vv (vm : Bool) (vd vs2 vs1 : Nat)
  | vmadd_vx (vm : Bool) (vd vs2 rs1 : Nat)
  | vnmsub_vv (vm : Bool) (vd vs2 vs1 : Nat)
  | vnmsub_vx (vm : Bool) (vd vs2 rs1 : Nat)
  | vmacc_vv (vm : Bool) (vd vs2 vs1 : Nat)
  | vmacc_vx (vm : Bool) (vd vs2 rs1 : Nat)
  | vnmsac_vv (vm : Bool) (vd vs2 vs1 : Nat)
  | vnmsac_vx (vm : Bool) (vd vs2 rs1 : Nat)
  | vwaddu_vv (vm : Bool) (vd vs2 vs1 : Nat)
  | vwaddu_vx (vm : Bool) (vd vs2 rs1 : Nat)
  | vwadd_vv (vm : Bool) (vd vs2 vs1 : Nat)
  | vwadd_vx (vm : Bool) (vd vs2 rs1 : Nat)
  | vwsubu_vv (vm : Bool) (vd vs2 vs1 : Nat)
  | vwsubu_vx (vm : Bool) (vd vs2 rs1 : Nat)
  | vwsub_vv (vm : Bool) (vd vs2 vs1 : Nat)
  | vwsub_vx (vm : Bool) (vd vs2 rs1 : Nat)
  | vwaddu_wv (vm : Bool) (vd vs2 vs1 : Nat)
  | vwaddu_wx (vm : Bool) (vd vs2 rs1 : Nat)
  | vwadd_wv (vm : Bool) (vd vs2 vs1 : Nat)
  | vwadd_wx (vm : Bool) (vd vs2 rs1 : Nat)
  | vwsubu_wv (vm : Bool) (vd vs2 vs1 : Nat)
  | vwsubu_wx (vm : Bool) (vd vs2 rs1 : Nat)
  | vwsub_wv (vm : Bool) (vd vs2 vs1 : Nat)
  | vwsub_wx (vm : Bool) (vd vs2 rs1 : Nat)
  | vwmulu_vv (vm : Bool) (vd vs2 vs1 : Nat)
  | vwmulu_vx (vm : Bool) (vd vs2 rs1 : Nat)
  | vwmulsu_vv (vm : Bool) (vd vs2 vs1 : Nat)
  | vwmulsu_vx (vm : Bool) (vd vs2 rs1 : Nat)
  | vwmul_vv (vm : Bool) (vd vs2 vs1 : Nat)
  | vwmul_vx (vm : Bool) (vd vs2 rs1 : Nat)
  | vwmaccu_vv (vm : Bool) (vd vs2 vs1 : Nat)
  | vwmaccu_vx (vm : Bool) (vd vs2 rs1 : Nat)
  | vwmacc_vv (vm : Bool) (vd vs2 vs1 : Nat)
  | vwmacc_vx (vm : Bool) (vd vs2 rs1 : Nat)
  | vwmaccus_vx (vm : Bool) (vd vs2 rs1 : Nat)
  | vwmaccsu_vv (vm : Bool) (vd vs2 vs1 : Nat)
  | vwmaccsu_vx (vm : Bool) (vd vs2 rs1 : Nat)
  | vle8_v (vm : Bool) (nf vd rs1 : Nat)
  | vle8ff_v (vm : Bool) (nf vd rs1 : Nat)
  | vlse8_v (vm : Bool) (nf vd rs1 rs2 : Nat)
  | vluxei8_v (vm : Bool) (nf vd rs1 vs2 : Nat)
  | vloxei8_v (vm : Bool) (nf vd rs1 vs2 : Nat)
  | vse8_v (vm : Bool) (nf vs3 rs1 : Nat)
  | vsse8_v (vm : Bool) (nf vs3 rs1 rs2 : Nat)
  | vsuxei8_v (vm : Bool) (nf vs3 rs1 vs2 : Nat)
  | vsoxei8_v (vm : Bool) (nf vs3 rs1 vs2 : Nat)
  | vle16_v (vm : Bool) (nf vd rs1 : Nat)
  | vle16ff_v (vm : Bool) (nf vd rs1 : Nat)
  | vlse16_v (vm : Bool) (nf vd rs1 rs2 : Nat)
  | vluxei16_v (vm : Bool) (nf vd rs1 vs2 : Nat)
  | vloxei16_v (vm : Bool) (nf vd rs1 vs2 : Nat)
  | vse16_v (vm : Bool) (nf vs3 rs1 : Nat)
  | vsse16_v (vm : Bool) (nf vs3 rs1 rs2 : Nat)
  | vsuxei16_v (vm : Bool) (nf vs3 rs1 vs2 : Nat)
  | vsoxei16_v (vm : Bool) (nf vs3 rs1 vs2 : Nat)
  | vle32_v (vm : Bool) (nf vd rs1 : Nat)
  | vle32ff_v (vm : Bool) (nf vd rs1 : Nat)
  | vlse32_v (vm : Bool) (nf vd rs1 rs2 : Nat)
  | vluxei32_v (vm : Bool) (nf vd rs1 vs2 : Nat)
  | vloxei32_v (vm : Bool) (nf vd rs1 vs2 : Nat)
  | vse32_v (vm : Bool) (nf vs3 rs1 : Nat)
  | vsse32_v (vm : Bool) (nf vs3 rs1 rs2 : Nat)
  | vsuxei32_v (vm : Bool) (nf vs3 rs1 vs2 : Nat)
  | vsoxei32_v (vm : Bool) (nf vs3 rs1 vs2 : Nat)
  | vle64_v (vm : Bool) (nf vd rs1 : Nat)
  | vle64ff_v (vm : Bool) (nf vd rs1 : Nat)
  | vlse64_v (vm : Bool) (nf vd rs1 rs2 : Nat)
  | vluxei64_v (vm : Bool) (nf vd rs1 vs2 : Nat)
  | vloxei64_v (vm : Bool) (nf vd rs1 vs2 : Nat)
  | vse64_v (vm : Bool) (nf vs3 rs1 : Nat)
  | vsse64_v (vm : Bool) (nf vs3 rs1 rs2 : Nat)
  | vsuxei64_v (vm : Bool) (nf vs3 rs1 vs2 : Nat)
  | vsoxei64_v (vm : Bool) (nf vs3 rs1 vs2 : Nat)
  | vl1re8_v (vd rs1 : Nat)
  | vl1re16_v (vd rs1 : Nat)
  | vl1re32_v (vd rs1 : Nat)
  | vl1re64_v (vd rs1 : Nat)
  | vs1r_v (vs3 rs1 : Nat)
  | vl2re8_v (vd rs1 : Nat)
  | vl2re16_v (vd rs1 : Nat)
  | vl2re32_v (vd rs1 : Nat)
  | vl2re64_v (vd rs1 : Nat)
  | vs2r_v (vs3 rs1 : Nat)
  | vl4re8_v (vd rs1 : Nat)
  | vl4re16_v (vd rs1 : Nat)
  | vl4re32_v (vd rs1 : Nat)
  | vl4re64_v (vd rs1 : Nat)
  | vs4r_v (vs3 rs1 : Nat)
  | vl8re8_v (vd rs1 : Nat)
  | vl8re16_v (vd rs1 : Nat)
  | vl8re32_v (vd rs1 : Nat)
  | vl8re64_v (vd rs1 : Nat)
  | vs8r_v (vs3 rs1 : Nat)
  | vlm_v (vd rs1 : Nat)
  | vsm_v (vs3 rs1 : Nat)
  deriving DecidableEq, Repr

end Sys2Proof
end

