-- ==== Sys2Proof/WellFormed.lean ====
section
/-! DEFINITION. Well-formed instructions: every field within the bits its format gives it (30_encoding R304, R306, R307). -/

namespace Sys2Proof

/-- A register number or a raw immediate fits its 5-bit field (30_encoding R320, R330). -/
def fits5 (r : Nat) : Bool := r < 32

/-- `nf` fits its 3-bit field (30_encoding R311). -/
def fits3 (nf : Nat) : Bool := nf < 8

/-- Every field of the instruction fits its place in the word. -/
def Instr.wf : Instr → Bool
  | .vadd_vv _ vd vs2 vs1 | .vsub_vv _ vd vs2 vs1 | .vminu_vv _ vd vs2 vs1 | .vmin_vv _ vd vs2 vs1
  | .vmaxu_vv _ vd vs2 vs1 | .vmax_vv _ vd vs2 vs1 | .vand_vv _ vd vs2 vs1 | .vor_vv _ vd vs2 vs1
  | .vxor_vv _ vd vs2 vs1 | .vrgather_vv _ vd vs2 vs1 | .vmseq_vv _ vd vs2 vs1 | .vmsne_vv _ vd vs2 vs1
  | .vmsltu_vv _ vd vs2 vs1 | .vmslt_vv _ vd vs2 vs1 | .vmsleu_vv _ vd vs2 vs1 | .vmsle_vv _ vd vs2 vs1
  | .vsaddu_vv _ vd vs2 vs1 | .vsadd_vv _ vd vs2 vs1 | .vssubu_vv _ vd vs2 vs1 | .vssub_vv _ vd vs2 vs1
  | .vsll_vv _ vd vs2 vs1 | .vsmul_vv _ vd vs2 vs1 | .vsrl_vv _ vd vs2 vs1 | .vsra_vv _ vd vs2 vs1
  | .vssrl_vv _ vd vs2 vs1 | .vssra_vv _ vd vs2 vs1 | .vnsrl_wv _ vd vs2 vs1 | .vnsra_wv _ vd vs2 vs1
  | .vnclipu_wv _ vd vs2 vs1 | .vnclip_wv _ vd vs2 vs1 | .vwredsumu_vs _ vd vs2 vs1 | .vwredsum_vs _ vd vs2 vs1
  | .vredsum_vs _ vd vs2 vs1 | .vredand_vs _ vd vs2 vs1 | .vredor_vs _ vd vs2 vs1 | .vredxor_vs _ vd vs2 vs1
  | .vredminu_vs _ vd vs2 vs1 | .vredmin_vs _ vd vs2 vs1 | .vredmaxu_vs _ vd vs2 vs1 | .vredmax_vs _ vd vs2 vs1
  | .vaaddu_vv _ vd vs2 vs1 | .vaadd_vv _ vd vs2 vs1 | .vasubu_vv _ vd vs2 vs1 | .vasub_vv _ vd vs2 vs1
  | .vdivu_vv _ vd vs2 vs1 | .vdiv_vv _ vd vs2 vs1 | .vremu_vv _ vd vs2 vs1 | .vrem_vv _ vd vs2 vs1
  | .vmulhu_vv _ vd vs2 vs1 | .vmul_vv _ vd vs2 vs1 | .vmulhsu_vv _ vd vs2 vs1 | .vmulh_vv _ vd vs2 vs1
  | .vmadd_vv _ vd vs2 vs1 | .vnmsub_vv _ vd vs2 vs1 | .vmacc_vv _ vd vs2 vs1 | .vnmsac_vv _ vd vs2 vs1
  | .vwaddu_vv _ vd vs2 vs1 | .vwadd_vv _ vd vs2 vs1 | .vwsubu_vv _ vd vs2 vs1 | .vwsub_vv _ vd vs2 vs1
  | .vwaddu_wv _ vd vs2 vs1 | .vwadd_wv _ vd vs2 vs1 | .vwsubu_wv _ vd vs2 vs1 | .vwsub_wv _ vd vs2 vs1
  | .vwmulu_vv _ vd vs2 vs1 | .vwmulsu_vv _ vd vs2 vs1 | .vwmul_vv _ vd vs2 vs1 | .vwmaccu_vv _ vd vs2 vs1
  | .vwmacc_vv _ vd vs2 vs1 | .vwmaccsu_vv _ vd vs2 vs1 | .vadc_vvm vd vs2 vs1 | .vmadc_vvm vd vs2 vs1
  | .vmadc_vv vd vs2 vs1 | .vsbc_vvm vd vs2 vs1 | .vmsbc_vvm vd vs2 vs1 | .vmsbc_vv vd vs2 vs1 =>
    fits5 vd && fits5 vs2 && fits5 vs1
  | .vadd_vx _ vd vs2 rs1 | .vsub_vx _ vd vs2 rs1 | .vrsub_vx _ vd vs2 rs1 | .vminu_vx _ vd vs2 rs1
  | .vmin_vx _ vd vs2 rs1 | .vmaxu_vx _ vd vs2 rs1 | .vmax_vx _ vd vs2 rs1 | .vand_vx _ vd vs2 rs1
  | .vor_vx _ vd vs2 rs1 | .vxor_vx _ vd vs2 rs1 | .vrgather_vx _ vd vs2 rs1 | .vslideup_vx _ vd vs2 rs1
  | .vslidedown_vx _ vd vs2 rs1 | .vmseq_vx _ vd vs2 rs1 | .vmsne_vx _ vd vs2 rs1 | .vmsltu_vx _ vd vs2 rs1
  | .vmslt_vx _ vd vs2 rs1 | .vmsleu_vx _ vd vs2 rs1 | .vmsle_vx _ vd vs2 rs1 | .vmsgtu_vx _ vd vs2 rs1
  | .vmsgt_vx _ vd vs2 rs1 | .vsaddu_vx _ vd vs2 rs1 | .vsadd_vx _ vd vs2 rs1 | .vssubu_vx _ vd vs2 rs1
  | .vssub_vx _ vd vs2 rs1 | .vsll_vx _ vd vs2 rs1 | .vsmul_vx _ vd vs2 rs1 | .vsrl_vx _ vd vs2 rs1
  | .vsra_vx _ vd vs2 rs1 | .vssrl_vx _ vd vs2 rs1 | .vssra_vx _ vd vs2 rs1 | .vnsrl_wx _ vd vs2 rs1
  | .vnsra_wx _ vd vs2 rs1 | .vnclipu_wx _ vd vs2 rs1 | .vnclip_wx _ vd vs2 rs1 | .vaaddu_vx _ vd vs2 rs1
  | .vaadd_vx _ vd vs2 rs1 | .vasubu_vx _ vd vs2 rs1 | .vasub_vx _ vd vs2 rs1 | .vslide1up_vx _ vd vs2 rs1
  | .vslide1down_vx _ vd vs2 rs1 | .vdivu_vx _ vd vs2 rs1 | .vdiv_vx _ vd vs2 rs1 | .vremu_vx _ vd vs2 rs1
  | .vrem_vx _ vd vs2 rs1 | .vmulhu_vx _ vd vs2 rs1 | .vmul_vx _ vd vs2 rs1 | .vmulhsu_vx _ vd vs2 rs1
  | .vmulh_vx _ vd vs2 rs1 | .vmadd_vx _ vd vs2 rs1 | .vnmsub_vx _ vd vs2 rs1 | .vmacc_vx _ vd vs2 rs1
  | .vnmsac_vx _ vd vs2 rs1 | .vwaddu_vx _ vd vs2 rs1 | .vwadd_vx _ vd vs2 rs1 | .vwsubu_vx _ vd vs2 rs1
  | .vwsub_vx _ vd vs2 rs1 | .vwaddu_wx _ vd vs2 rs1 | .vwadd_wx _ vd vs2 rs1 | .vwsubu_wx _ vd vs2 rs1
  | .vwsub_wx _ vd vs2 rs1 | .vwmulu_vx _ vd vs2 rs1 | .vwmulsu_vx _ vd vs2 rs1 | .vwmul_vx _ vd vs2 rs1
  | .vwmaccu_vx _ vd vs2 rs1 | .vwmacc_vx _ vd vs2 rs1 | .vwmaccus_vx _ vd vs2 rs1 | .vwmaccsu_vx _ vd vs2 rs1
  | .vadc_vxm vd vs2 rs1 | .vmadc_vxm vd vs2 rs1 | .vmadc_vx vd vs2 rs1 | .vsbc_vxm vd vs2 rs1
  | .vmsbc_vxm vd vs2 rs1 | .vmsbc_vx vd vs2 rs1 =>
    fits5 vd && fits5 vs2 && fits5 rs1
  | .vadd_vi _ vd vs2 imm5 | .vrsub_vi _ vd vs2 imm5 | .vand_vi _ vd vs2 imm5 | .vor_vi _ vd vs2 imm5
  | .vxor_vi _ vd vs2 imm5 | .vrgather_vi _ vd vs2 imm5 | .vslideup_vi _ vd vs2 imm5 | .vslidedown_vi _ vd vs2 imm5
  | .vmseq_vi _ vd vs2 imm5 | .vmsne_vi _ vd vs2 imm5 | .vmsleu_vi _ vd vs2 imm5 | .vmsle_vi _ vd vs2 imm5
  | .vmsgtu_vi _ vd vs2 imm5 | .vmsgt_vi _ vd vs2 imm5 | .vsaddu_vi _ vd vs2 imm5 | .vsadd_vi _ vd vs2 imm5
  | .vsll_vi _ vd vs2 imm5 | .vsrl_vi _ vd vs2 imm5 | .vsra_vi _ vd vs2 imm5 | .vssrl_vi _ vd vs2 imm5
  | .vssra_vi _ vd vs2 imm5 | .vnsrl_wi _ vd vs2 imm5 | .vnsra_wi _ vd vs2 imm5 | .vnclipu_wi _ vd vs2 imm5
  | .vnclip_wi _ vd vs2 imm5 | .vadc_vim vd vs2 imm5 | .vmadc_vim vd vs2 imm5 | .vmadc_vi vd vs2 imm5 =>
    fits5 vd && fits5 vs2 && fits5 imm5
  | .vzext_vf8 _ vd vs2 | .vsext_vf8 _ vd vs2 | .vzext_vf4 _ vd vs2 | .vsext_vf4 _ vd vs2 | .vzext_vf2 _ vd vs2
  | .vsext_vf2 _ vd vs2 =>
    fits5 vd && fits5 vs2
  | .vle8_v _ nf vd rs1 | .vle8ff_v _ nf vd rs1 | .vle16_v _ nf vd rs1 | .vle16ff_v _ nf vd rs1
  | .vle32_v _ nf vd rs1 | .vle32ff_v _ nf vd rs1 | .vle64_v _ nf vd rs1 | .vle64ff_v _ nf vd rs1 =>
    fits3 nf && fits5 vd && fits5 rs1
  | .vse8_v _ nf vs3 rs1 | .vse16_v _ nf vs3 rs1 | .vse32_v _ nf vs3 rs1 | .vse64_v _ nf vs3 rs1 =>
    fits3 nf && fits5 vs3 && fits5 rs1
  | .vlse8_v _ nf vd rs1 rs2 | .vlse16_v _ nf vd rs1 rs2 | .vlse32_v _ nf vd rs1 rs2 | .vlse64_v _ nf vd rs1 rs2 =>
    fits3 nf && fits5 vd && fits5 rs1 && fits5 rs2
  | .vsse8_v _ nf vs3 rs1 rs2 | .vsse16_v _ nf vs3 rs1 rs2 | .vsse32_v _ nf vs3 rs1 rs2 | .vsse64_v _ nf vs3 rs1 rs2 =>
    fits3 nf && fits5 vs3 && fits5 rs1 && fits5 rs2
  | .vluxei8_v _ nf vd rs1 vs2 | .vloxei8_v _ nf vd rs1 vs2 | .vluxei16_v _ nf vd rs1 vs2
  | .vloxei16_v _ nf vd rs1 vs2 | .vluxei32_v _ nf vd rs1 vs2 | .vloxei32_v _ nf vd rs1 vs2
  | .vluxei64_v _ nf vd rs1 vs2 | .vloxei64_v _ nf vd rs1 vs2 =>
    fits3 nf && fits5 vd && fits5 rs1 && fits5 vs2
  | .vsuxei8_v _ nf vs3 rs1 vs2 | .vsoxei8_v _ nf vs3 rs1 vs2 | .vsuxei16_v _ nf vs3 rs1 vs2
  | .vsoxei16_v _ nf vs3 rs1 vs2 | .vsuxei32_v _ nf vs3 rs1 vs2 | .vsoxei32_v _ nf vs3 rs1 vs2
  | .vsuxei64_v _ nf vs3 rs1 vs2 | .vsoxei64_v _ nf vs3 rs1 vs2 =>
    fits3 nf && fits5 vs3 && fits5 rs1 && fits5 vs2
  | .vl1re8_v vd rs1 | .vl1re16_v vd rs1 | .vl1re32_v vd rs1 | .vl1re64_v vd rs1 | .vl2re8_v vd rs1
  | .vl2re16_v vd rs1 | .vl2re32_v vd rs1 | .vl2re64_v vd rs1 | .vl4re8_v vd rs1 | .vl4re16_v vd rs1
  | .vl4re32_v vd rs1 | .vl4re64_v vd rs1 | .vl8re8_v vd rs1 | .vl8re16_v vd rs1 | .vl8re32_v vd rs1
  | .vl8re64_v vd rs1 | .vlm_v vd rs1 =>
    fits5 vd && fits5 rs1
  | .vs1r_v vs3 rs1 | .vs2r_v vs3 rs1 | .vs4r_v vs3 rs1 | .vs8r_v vs3 rs1 | .vsm_v vs3 rs1 =>
    fits5 vs3 && fits5 rs1

end Sys2Proof
end

