-- ==== Sys2Proof/Word.lean ====
section
/-! DEFINITION. Bytes, instruction words and the bit-string primitives of 00_scope R13 and R14. -/

namespace Sys2Proof

/-- A byte of the vector register file or of memory. -/
abbrev Byte := BitVec 8

/-- A 32-bit instruction word (30_encoding R303). -/
abbrev InstrWord := BitVec 32

/-- `trunc_N(z)`: the N-bit string of `z mod 2^N` (00_scope R14). `uint_N` is `BitVec.toNat` and `sint_N` is `BitVec.toInt`. -/
def trunc (w : Nat) (z : Int) : BitVec w := BitVec.ofInt w z

/-- `bit(v, k)`: bit `k` of the two's-complement form of the integer `v` (00_scope R13, 45_fixed_point R800). -/
def intBit (v : Int) (k : Nat) : Bool := v / 2 ^ k % 2 == 1

end Sys2Proof
end

