-- ==== Sys2Proof/Decode.lean ====
section
/-! DEFINITION. The decoder of the dispatch collaborator (30_encoding R303 to R353), total on 32-bit words, and the encoder.
A word is cut into the fields of 30_encoding R304 and R306 by `Fields.ofWord`, and `decodeFields` reads the opcode map of
30_encoding R340 to R343 off them; the encoder goes the other way. -/

namespace Sys2Proof

/-- The fields of a vector instruction word at the finest cut that every format shares (30_encoding R304, R306, R307):
`nf` bits 31:29, `mew` 28, `mop` 27:26, `vm` 25, `f2` 24:20 (`vs2`, `rs2`, `lumop`, `sumop`), `f1` 19:15 (`vs1`, `rs1`,
`imm5`), `f3` 14:12 (`funct3`, `width`), `fd` 11:7 (`vd`, `vs3`), `op` 6:0. -/
structure Fields where
  nf : Nat
  mew : Nat
  mop : Nat
  vm : Bool
  f2 : Nat
  f1 : Nat
  f3 : Nat
  fd : Nat
  op : Nat
  deriving DecidableEq, Repr

/-- `funct6`, bits 31:26 of format OP-V (30_encoding R304). -/
def Fields.funct6 (f : Fields) : Nat := f.nf * 8 + f.mew * 4 + f.mop

/-- The fields of a word, each at its place (30_encoding R304, R306). -/
def Fields.ofWord (w : InstrWord) : Fields where
  nf := w.toNat / 2 ^ 29 % 8
  mew := w.toNat / 2 ^ 28 % 2
  mop := w.toNat / 2 ^ 26 % 4
  vm := w.toNat / 2 ^ 25 % 2 == 1
  f2 := w.toNat / 2 ^ 20 % 32
  f1 := w.toNat / 2 ^ 15 % 32
  f3 := w.toNat / 2 ^ 12 % 8
  fd := w.toNat / 2 ^ 7 % 32
  op := w.toNat % 128

/-- The number a word with these fields spells. -/
def Fields.toNat (f : Fields) : Nat :=
  f.nf * 2 ^ 29 + f.mew * 2 ^ 28 + f.mop * 2 ^ 26 + (if f.vm then 2 ^ 25 else 0) + f.f2 * 2 ^ 20 + f.f1 * 2 ^ 15
    + f.f3 * 2 ^ 12 + f.fd * 2 ^ 7 + f.op

/-- The word with these fields. -/
def Fields.toWord (f : Fields) : InstrWord := BitVec.ofNat 32 f.toNat

/-- The reserved encodings inside the vector opcodes, each an illegal instruction (30_encoding R350 class (b), 92 D43). -/
inductive ReservedEncoding where
  /-- A reserved `vm` value (30_encoding R351). -/
  | vmBit
  /-- A reserved `nf` value (30_encoding R352). -/
  | nfField
  /-- A reserved `width` (30_encoding R352). -/
  | widthField
  /-- `mew = 1` (30_encoding R353). -/
  | mewBit
  /-- A reserved `lumop` or `sumop` value (30_encoding R310, R353). -/
  | unitStrideOp
  /-- A `funct6` that is neither an entry of its category in the opcode map nor a named instruction: illegal by 92 D43 and 93
  item 4, where the text below the maps of 30_encoding R340 and R341 has it refused (log 15). -/
  | funct6
  deriving DecidableEq, Repr

/-- Why a word is not an admitted instruction of this block, so that the model refuses it (00_scope R9, 30_encoding R350
class (c)). -/
inductive Unadmitted where
  /-- Not one of the three vector major opcodes (30_encoding R303). -/
  | notVector
  /-- A scalar floating-point load or store (30_encoding R308). -/
  | scalarFloatMemory
  /-- OPFVV or OPFVF (30_encoding R305, 00_scope R8). -/
  | floatingPoint
  /-- `vsetvli`, `vsetivli`, `vsetvl` (30_encoding R305, 00_scope R9). -/
  | configuration
  /-- `vrgatherei16.vv` (30_encoding R340). -/
  | vrgatherei16
  /-- `vmerge`, `vmv.v.*` (30_encoding R340). -/
  | vmergeVmv
  /-- `vmv<nr>r.v` (30_encoding R340). -/
  | vmvWholeRegister
  /-- `vmv.x.s`, `vcpop.m`, `vfirst.m`, `vmv.s.x` (30_encoding R341). -/
  | vwxunary0
  /-- `vmsbf.m`, `vmsof.m`, `vmsif.m`, `viota.m`, `vid.v` (30_encoding R341). -/
  | vmunary0
  /-- `vcompress.vm` (30_encoding R341). -/
  | vcompress
  /-- A mask-logical `.mm` instruction (30_encoding R341). -/
  | maskLogical
  /-- A VXUNARY0 `vs1` value that is not admitted (30_encoding R342). -/
  | vxunary0
  deriving DecidableEq, Repr

/-- What the dispatch collaborator makes of a word (30_encoding R350). -/
inductive Decoded where
  | instr (i : Instr)
  | reserved (r : ReservedEncoding)
  | unadmitted (u : Unadmitted)
  deriving DecidableEq, Repr

/-- VXUNARY0: the `vs1` field selects the operation (30_encoding R342). -/
def decodeVxunary0 (f : Fields) : Decoded :=
  match f.f1 with
  | 2 => .instr (.vzext_vf8 f.vm f.fd f.f2)
  | 3 => .instr (.vsext_vf8 f.vm f.fd f.f2)
  | 4 => .instr (.vzext_vf4 f.vm f.fd f.f2)
  | 5 => .instr (.vsext_vf4 f.vm f.fd f.f2)
  | 6 => .instr (.vzext_vf2 f.vm f.fd f.f2)
  | 7 => .instr (.vsext_vf2 f.vm f.fd f.f2)
  | _ => .unadmitted .vxunary0

/-- OPIVV (30_encoding R340, column V). -/
def decodeOpivv (f : Fields) : Decoded :=
  match f.funct6 with
  | 0 => .instr (.vadd_vv f.vm f.fd f.f2 f.f1)
  | 2 => .instr (.vsub_vv f.vm f.fd f.f2 f.f1)
  | 4 => .instr (.vminu_vv f.vm f.fd f.f2 f.f1)
  | 5 => .instr (.vmin_vv f.vm f.fd f.f2 f.f1)
  | 6 => .instr (.vmaxu_vv f.vm f.fd f.f2 f.f1)
  | 7 => .instr (.vmax_vv f.vm f.fd f.f2 f.f1)
  | 9 => .instr (.vand_vv f.vm f.fd f.f2 f.f1)
  | 10 => .instr (.vor_vv f.vm f.fd f.f2 f.f1)
  | 11 => .instr (.vxor_vv f.vm f.fd f.f2 f.f1)
  | 12 => .instr (.vrgather_vv f.vm f.fd f.f2 f.f1)
  | 14 => .unadmitted .vrgatherei16
  | 16 => if f.vm then .reserved .vmBit else .instr (.vadc_vvm f.fd f.f2 f.f1)
  | 17 => if f.vm then .instr (.vmadc_vv f.fd f.f2 f.f1) else .instr (.vmadc_vvm f.fd f.f2 f.f1)
  | 18 => if f.vm then .reserved .vmBit else .instr (.vsbc_vvm f.fd f.f2 f.f1)
  | 19 => if f.vm then .instr (.vmsbc_vv f.fd f.f2 f.f1) else .instr (.vmsbc_vvm f.fd f.f2 f.f1)
  | 23 => .unadmitted .vmergeVmv
  | 24 => .instr (.vmseq_vv f.vm f.fd f.f2 f.f1)
  | 25 => .instr (.vmsne_vv f.vm f.fd f.f2 f.f1)
  | 26 => .instr (.vmsltu_vv f.vm f.fd f.f2 f.f1)
  | 27 => .instr (.vmslt_vv f.vm f.fd f.f2 f.f1)
  | 28 => .instr (.vmsleu_vv f.vm f.fd f.f2 f.f1)
  | 29 => .instr (.vmsle_vv f.vm f.fd f.f2 f.f1)
  | 32 => .instr (.vsaddu_vv f.vm f.fd f.f2 f.f1)
  | 33 => .instr (.vsadd_vv f.vm f.fd f.f2 f.f1)
  | 34 => .instr (.vssubu_vv f.vm f.fd f.f2 f.f1)
  | 35 => .instr (.vssub_vv f.vm f.fd f.f2 f.f1)
  | 37 => .instr (.vsll_vv f.vm f.fd f.f2 f.f1)
  | 39 => .instr (.vsmul_vv f.vm f.fd f.f2 f.f1)
  | 40 => .instr (.vsrl_vv f.vm f.fd f.f2 f.f1)
  | 41 => .instr (.vsra_vv f.vm f.fd f.f2 f.f1)
  | 42 => .instr (.vssrl_vv f.vm f.fd f.f2 f.f1)
  | 43 => .instr (.vssra_vv f.vm f.fd f.f2 f.f1)
  | 44 => .instr (.vnsrl_wv f.vm f.fd f.f2 f.f1)
  | 45 => .instr (.vnsra_wv f.vm f.fd f.f2 f.f1)
  | 46 => .instr (.vnclipu_wv f.vm f.fd f.f2 f.f1)
  | 47 => .instr (.vnclip_wv f.vm f.fd f.f2 f.f1)
  | 48 => .instr (.vwredsumu_vs f.vm f.fd f.f2 f.f1)
  | 49 => .instr (.vwredsum_vs f.vm f.fd f.f2 f.f1)
  | _ => .reserved .funct6

/-- OPIVI (30_encoding R340, column I). -/
def decodeOpivi (f : Fields) : Decoded :=
  match f.funct6 with
  | 0 => .instr (.vadd_vi f.vm f.fd f.f2 f.f1)
  | 3 => .instr (.vrsub_vi f.vm f.fd f.f2 f.f1)
  | 9 => .instr (.vand_vi f.vm f.fd f.f2 f.f1)
  | 10 => .instr (.vor_vi f.vm f.fd f.f2 f.f1)
  | 11 => .instr (.vxor_vi f.vm f.fd f.f2 f.f1)
  | 12 => .instr (.vrgather_vi f.vm f.fd f.f2 f.f1)
  | 14 => .instr (.vslideup_vi f.vm f.fd f.f2 f.f1)
  | 15 => .instr (.vslidedown_vi f.vm f.fd f.f2 f.f1)
  | 16 => if f.vm then .reserved .vmBit else .instr (.vadc_vim f.fd f.f2 f.f1)
  | 17 => if f.vm then .instr (.vmadc_vi f.fd f.f2 f.f1) else .instr (.vmadc_vim f.fd f.f2 f.f1)
  | 23 => .unadmitted .vmergeVmv
  | 24 => .instr (.vmseq_vi f.vm f.fd f.f2 f.f1)
  | 25 => .instr (.vmsne_vi f.vm f.fd f.f2 f.f1)
  | 28 => .instr (.vmsleu_vi f.vm f.fd f.f2 f.f1)
  | 29 => .instr (.vmsle_vi f.vm f.fd f.f2 f.f1)
  | 30 => .instr (.vmsgtu_vi f.vm f.fd f.f2 f.f1)
  | 31 => .instr (.vmsgt_vi f.vm f.fd f.f2 f.f1)
  | 32 => .instr (.vsaddu_vi f.vm f.fd f.f2 f.f1)
  | 33 => .instr (.vsadd_vi f.vm f.fd f.f2 f.f1)
  | 37 => .instr (.vsll_vi f.vm f.fd f.f2 f.f1)
  | 39 => .unadmitted .vmvWholeRegister
  | 40 => .instr (.vsrl_vi f.vm f.fd f.f2 f.f1)
  | 41 => .instr (.vsra_vi f.vm f.fd f.f2 f.f1)
  | 42 => .instr (.vssrl_vi f.vm f.fd f.f2 f.f1)
  | 43 => .instr (.vssra_vi f.vm f.fd f.f2 f.f1)
  | 44 => .instr (.vnsrl_wi f.vm f.fd f.f2 f.f1)
  | 45 => .instr (.vnsra_wi f.vm f.fd f.f2 f.f1)
  | 46 => .instr (.vnclipu_wi f.vm f.fd f.f2 f.f1)
  | 47 => .instr (.vnclip_wi f.vm f.fd f.f2 f.f1)
  | _ => .reserved .funct6

/-- OPIVX (30_encoding R340, column X). -/
def decodeOpivx (f : Fields) : Decoded :=
  match f.funct6 with
  | 0 => .instr (.vadd_vx f.vm f.fd f.f2 f.f1)
  | 2 => .instr (.vsub_vx f.vm f.fd f.f2 f.f1)
  | 3 => .instr (.vrsub_vx f.vm f.fd f.f2 f.f1)
  | 4 => .instr (.vminu_vx f.vm f.fd f.f2 f.f1)
  | 5 => .instr (.vmin_vx f.vm f.fd f.f2 f.f1)
  | 6 => .instr (.vmaxu_vx f.vm f.fd f.f2 f.f1)
  | 7 => .instr (.vmax_vx f.vm f.fd f.f2 f.f1)
  | 9 => .instr (.vand_vx f.vm f.fd f.f2 f.f1)
  | 10 => .instr (.vor_vx f.vm f.fd f.f2 f.f1)
  | 11 => .instr (.vxor_vx f.vm f.fd f.f2 f.f1)
  | 12 => .instr (.vrgather_vx f.vm f.fd f.f2 f.f1)
  | 14 => .instr (.vslideup_vx f.vm f.fd f.f2 f.f1)
  | 15 => .instr (.vslidedown_vx f.vm f.fd f.f2 f.f1)
  | 16 => if f.vm then .reserved .vmBit else .instr (.vadc_vxm f.fd f.f2 f.f1)
  | 17 => if f.vm then .instr (.vmadc_vx f.fd f.f2 f.f1) else .instr (.vmadc_vxm f.fd f.f2 f.f1)
  | 18 => if f.vm then .reserved .vmBit else .instr (.vsbc_vxm f.fd f.f2 f.f1)
  | 19 => if f.vm then .instr (.vmsbc_vx f.fd f.f2 f.f1) else .instr (.vmsbc_vxm f.fd f.f2 f.f1)
  | 23 => .unadmitted .vmergeVmv
  | 24 => .instr (.vmseq_vx f.vm f.fd f.f2 f.f1)
  | 25 => .instr (.vmsne_vx f.vm f.fd f.f2 f.f1)
  | 26 => .instr (.vmsltu_vx f.vm f.fd f.f2 f.f1)
  | 27 => .instr (.vmslt_vx f.vm f.fd f.f2 f.f1)
  | 28 => .instr (.vmsleu_vx f.vm f.fd f.f2 f.f1)
  | 29 => .instr (.vmsle_vx f.vm f.fd f.f2 f.f1)
  | 30 => .instr (.vmsgtu_vx f.vm f.fd f.f2 f.f1)
  | 31 => .instr (.vmsgt_vx f.vm f.fd f.f2 f.f1)
  | 32 => .instr (.vsaddu_vx f.vm f.fd f.f2 f.f1)
  | 33 => .instr (.vsadd_vx f.vm f.fd f.f2 f.f1)
  | 34 => .instr (.vssubu_vx f.vm f.fd f.f2 f.f1)
  | 35 => .instr (.vssub_vx f.vm f.fd f.f2 f.f1)
  | 37 => .instr (.vsll_vx f.vm f.fd f.f2 f.f1)
  | 39 => .instr (.vsmul_vx f.vm f.fd f.f2 f.f1)
  | 40 => .instr (.vsrl_vx f.vm f.fd f.f2 f.f1)
  | 41 => .instr (.vsra_vx f.vm f.fd f.f2 f.f1)
  | 42 => .instr (.vssrl_vx f.vm f.fd f.f2 f.f1)
  | 43 => .instr (.vssra_vx f.vm f.fd f.f2 f.f1)
  | 44 => .instr (.vnsrl_wx f.vm f.fd f.f2 f.f1)
  | 45 => .instr (.vnsra_wx f.vm f.fd f.f2 f.f1)
  | 46 => .instr (.vnclipu_wx f.vm f.fd f.f2 f.f1)
  | 47 => .instr (.vnclip_wx f.vm f.fd f.f2 f.f1)
  | _ => .reserved .funct6

/-- OPMVV (30_encoding R341, column V). -/
def decodeOpmvv (f : Fields) : Decoded :=
  match f.funct6 with
  | 0 => .instr (.vredsum_vs f.vm f.fd f.f2 f.f1)
  | 1 => .instr (.vredand_vs f.vm f.fd f.f2 f.f1)
  | 2 => .instr (.vredor_vs f.vm f.fd f.f2 f.f1)
  | 3 => .instr (.vredxor_vs f.vm f.fd f.f2 f.f1)
  | 4 => .instr (.vredminu_vs f.vm f.fd f.f2 f.f1)
  | 5 => .instr (.vredmin_vs f.vm f.fd f.f2 f.f1)
  | 6 => .instr (.vredmaxu_vs f.vm f.fd f.f2 f.f1)
  | 7 => .instr (.vredmax_vs f.vm f.fd f.f2 f.f1)
  | 8 => .instr (.vaaddu_vv f.vm f.fd f.f2 f.f1)
  | 9 => .instr (.vaadd_vv f.vm f.fd f.f2 f.f1)
  | 10 => .instr (.vasubu_vv f.vm f.fd f.f2 f.f1)
  | 11 => .instr (.vasub_vv f.vm f.fd f.f2 f.f1)
  | 16 => .unadmitted .vwxunary0
  | 18 => decodeVxunary0 f
  | 20 => .unadmitted .vmunary0
  | 23 => .unadmitted .vcompress
  | 24 => .unadmitted .maskLogical
  | 25 => .unadmitted .maskLogical
  | 26 => .unadmitted .maskLogical
  | 27 => .unadmitted .maskLogical
  | 28 => .unadmitted .maskLogical
  | 29 => .unadmitted .maskLogical
  | 30 => .unadmitted .maskLogical
  | 31 => .unadmitted .maskLogical
  | 32 => .instr (.vdivu_vv f.vm f.fd f.f2 f.f1)
  | 33 => .instr (.vdiv_vv f.vm f.fd f.f2 f.f1)
  | 34 => .instr (.vremu_vv f.vm f.fd f.f2 f.f1)
  | 35 => .instr (.vrem_vv f.vm f.fd f.f2 f.f1)
  | 36 => .instr (.vmulhu_vv f.vm f.fd f.f2 f.f1)
  | 37 => .instr (.vmul_vv f.vm f.fd f.f2 f.f1)
  | 38 => .instr (.vmulhsu_vv f.vm f.fd f.f2 f.f1)
  | 39 => .instr (.vmulh_vv f.vm f.fd f.f2 f.f1)
  | 41 => .instr (.vmadd_vv f.vm f.fd f.f2 f.f1)
  | 43 => .instr (.vnmsub_vv f.vm f.fd f.f2 f.f1)
  | 45 => .instr (.vmacc_vv f.vm f.fd f.f2 f.f1)
  | 47 => .instr (.vnmsac_vv f.vm f.fd f.f2 f.f1)
  | 48 => .instr (.vwaddu_vv f.vm f.fd f.f2 f.f1)
  | 49 => .instr (.vwadd_vv f.vm f.fd f.f2 f.f1)
  | 50 => .instr (.vwsubu_vv f.vm f.fd f.f2 f.f1)
  | 51 => .instr (.vwsub_vv f.vm f.fd f.f2 f.f1)
  | 52 => .instr (.vwaddu_wv f.vm f.fd f.f2 f.f1)
  | 53 => .instr (.vwadd_wv f.vm f.fd f.f2 f.f1)
  | 54 => .instr (.vwsubu_wv f.vm f.fd f.f2 f.f1)
  | 55 => .instr (.vwsub_wv f.vm f.fd f.f2 f.f1)
  | 56 => .instr (.vwmulu_vv f.vm f.fd f.f2 f.f1)
  | 58 => .instr (.vwmulsu_vv f.vm f.fd f.f2 f.f1)
  | 59 => .instr (.vwmul_vv f.vm f.fd f.f2 f.f1)
  | 60 => .instr (.vwmaccu_vv f.vm f.fd f.f2 f.f1)
  | 61 => .instr (.vwmacc_vv f.vm f.fd f.f2 f.f1)
  | 63 => .instr (.vwmaccsu_vv f.vm f.fd f.f2 f.f1)
  | _ => .reserved .funct6

/-- OPMVX (30_encoding R341, column X). -/
def decodeOpmvx (f : Fields) : Decoded :=
  match f.funct6 with
  | 8 => .instr (.vaaddu_vx f.vm f.fd f.f2 f.f1)
  | 9 => .instr (.vaadd_vx f.vm f.fd f.f2 f.f1)
  | 10 => .instr (.vasubu_vx f.vm f.fd f.f2 f.f1)
  | 11 => .instr (.vasub_vx f.vm f.fd f.f2 f.f1)
  | 14 => .instr (.vslide1up_vx f.vm f.fd f.f2 f.f1)
  | 15 => .instr (.vslide1down_vx f.vm f.fd f.f2 f.f1)
  | 16 => .unadmitted .vwxunary0
  | 20 => .unadmitted .vmunary0
  | 23 => .unadmitted .vcompress
  | 24 => .unadmitted .maskLogical
  | 25 => .unadmitted .maskLogical
  | 26 => .unadmitted .maskLogical
  | 27 => .unadmitted .maskLogical
  | 28 => .unadmitted .maskLogical
  | 29 => .unadmitted .maskLogical
  | 30 => .unadmitted .maskLogical
  | 31 => .unadmitted .maskLogical
  | 32 => .instr (.vdivu_vx f.vm f.fd f.f2 f.f1)
  | 33 => .instr (.vdiv_vx f.vm f.fd f.f2 f.f1)
  | 34 => .instr (.vremu_vx f.vm f.fd f.f2 f.f1)
  | 35 => .instr (.vrem_vx f.vm f.fd f.f2 f.f1)
  | 36 => .instr (.vmulhu_vx f.vm f.fd f.f2 f.f1)
  | 37 => .instr (.vmul_vx f.vm f.fd f.f2 f.f1)
  | 38 => .instr (.vmulhsu_vx f.vm f.fd f.f2 f.f1)
  | 39 => .instr (.vmulh_vx f.vm f.fd f.f2 f.f1)
  | 41 => .instr (.vmadd_vx f.vm f.fd f.f2 f.f1)
  | 43 => .instr (.vnmsub_vx f.vm f.fd f.f2 f.f1)
  | 45 => .instr (.vmacc_vx f.vm f.fd f.f2 f.f1)
  | 47 => .instr (.vnmsac_vx f.vm f.fd f.f2 f.f1)
  | 48 => .instr (.vwaddu_vx f.vm f.fd f.f2 f.f1)
  | 49 => .instr (.vwadd_vx f.vm f.fd f.f2 f.f1)
  | 50 => .instr (.vwsubu_vx f.vm f.fd f.f2 f.f1)
  | 51 => .instr (.vwsub_vx f.vm f.fd f.f2 f.f1)
  | 52 => .instr (.vwaddu_wx f.vm f.fd f.f2 f.f1)
  | 53 => .instr (.vwadd_wx f.vm f.fd f.f2 f.f1)
  | 54 => .instr (.vwsubu_wx f.vm f.fd f.f2 f.f1)
  | 55 => .instr (.vwsub_wx f.vm f.fd f.f2 f.f1)
  | 56 => .instr (.vwmulu_vx f.vm f.fd f.f2 f.f1)
  | 58 => .instr (.vwmulsu_vx f.vm f.fd f.f2 f.f1)
  | 59 => .instr (.vwmul_vx f.vm f.fd f.f2 f.f1)
  | 60 => .instr (.vwmaccu_vx f.vm f.fd f.f2 f.f1)
  | 61 => .instr (.vwmacc_vx f.vm f.fd f.f2 f.f1)
  | 62 => .instr (.vwmaccus_vx f.vm f.fd f.f2 f.f1)
  | 63 => .instr (.vwmaccsu_vx f.vm f.fd f.f2 f.f1)
  | _ => .reserved .funct6

/-- Format OP-V: `funct3` selects the operand category (30_encoding R305). -/
def decodeOpV (f : Fields) : Decoded :=
  match f.f3 with
  | 0 => decodeOpivv f
  | 2 => decodeOpmvv f
  | 3 => decodeOpivi f
  | 4 => decodeOpivx f
  | 6 => decodeOpmvx f
  | 7 => .unadmitted .configuration
  | _ => .unadmitted .floatingPoint

/-- Unit-stride loads by `width` (30_encoding R308, R343). -/
def decodeLoadUnit (f : Fields) : Decoded :=
  match f.f3 with
  | 0 => .instr (.vle8_v f.vm f.nf f.fd f.f1)
  | 5 => .instr (.vle16_v f.vm f.nf f.fd f.f1)
  | 6 => .instr (.vle32_v f.vm f.nf f.fd f.f1)
  | 7 => .instr (.vle64_v f.vm f.nf f.fd f.f1)
  | _ => .unadmitted .scalarFloatMemory

/-- Fault-only-first loads by `width` (30_encoding R343). -/
def decodeLoadFirstFault (f : Fields) : Decoded :=
  match f.f3 with
  | 0 => .instr (.vle8ff_v f.vm f.nf f.fd f.f1)
  | 5 => .instr (.vle16ff_v f.vm f.nf f.fd f.f1)
  | 6 => .instr (.vle32ff_v f.vm f.nf f.fd f.f1)
  | 7 => .instr (.vle64ff_v f.vm f.nf f.fd f.f1)
  | _ => .unadmitted .scalarFloatMemory

/-- Strided loads by `width` (30_encoding R343). -/
def decodeLoadStrided (f : Fields) : Decoded :=
  match f.f3 with
  | 0 => .instr (.vlse8_v f.vm f.nf f.fd f.f1 f.f2)
  | 5 => .instr (.vlse16_v f.vm f.nf f.fd f.f1 f.f2)
  | 6 => .instr (.vlse32_v f.vm f.nf f.fd f.f1 f.f2)
  | 7 => .instr (.vlse64_v f.vm f.nf f.fd f.f1 f.f2)
  | _ => .unadmitted .scalarFloatMemory

/-- Indexed-unordered loads by `width` (30_encoding R343). -/
def decodeLoadUnordered (f : Fields) : Decoded :=
  match f.f3 with
  | 0 => .instr (.vluxei8_v f.vm f.nf f.fd f.f1 f.f2)
  | 5 => .instr (.vluxei16_v f.vm f.nf f.fd f.f1 f.f2)
  | 6 => .instr (.vluxei32_v f.vm f.nf f.fd f.f1 f.f2)
  | 7 => .instr (.vluxei64_v f.vm f.nf f.fd f.f1 f.f2)
  | _ => .unadmitted .scalarFloatMemory

/-- Indexed-ordered loads by `width` (30_encoding R343). -/
def decodeLoadOrdered (f : Fields) : Decoded :=
  match f.f3 with
  | 0 => .instr (.vloxei8_v f.vm f.nf f.fd f.f1 f.f2)
  | 5 => .instr (.vloxei16_v f.vm f.nf f.fd f.f1 f.f2)
  | 6 => .instr (.vloxei32_v f.vm f.nf f.fd f.f1 f.f2)
  | 7 => .instr (.vloxei64_v f.vm f.nf f.fd f.f1 f.f2)
  | _ => .unadmitted .scalarFloatMemory

/-- Unit-stride stores by `width` (30_encoding R343). -/
def decodeStoreUnit (f : Fields) : Decoded :=
  match f.f3 with
  | 0 => .instr (.vse8_v f.vm f.nf f.fd f.f1)
  | 5 => .instr (.vse16_v f.vm f.nf f.fd f.f1)
  | 6 => .instr (.vse32_v f.vm f.nf f.fd f.f1)
  | 7 => .instr (.vse64_v f.vm f.nf f.fd f.f1)
  | _ => .unadmitted .scalarFloatMemory

/-- Strided stores by `width` (30_encoding R343). -/
def decodeStoreStrided (f : Fields) : Decoded :=
  match f.f3 with
  | 0 => .instr (.vsse8_v f.vm f.nf f.fd f.f1 f.f2)
  | 5 => .instr (.vsse16_v f.vm f.nf f.fd f.f1 f.f2)
  | 6 => .instr (.vsse32_v f.vm f.nf f.fd f.f1 f.f2)
  | 7 => .instr (.vsse64_v f.vm f.nf f.fd f.f1 f.f2)
  | _ => .unadmitted .scalarFloatMemory

/-- Indexed-unordered stores by `width` (30_encoding R343). -/
def decodeStoreUnordered (f : Fields) : Decoded :=
  match f.f3 with
  | 0 => .instr (.vsuxei8_v f.vm f.nf f.fd f.f1 f.f2)
  | 5 => .instr (.vsuxei16_v f.vm f.nf f.fd f.f1 f.f2)
  | 6 => .instr (.vsuxei32_v f.vm f.nf f.fd f.f1 f.f2)
  | 7 => .instr (.vsuxei64_v f.vm f.nf f.fd f.f1 f.f2)
  | _ => .unadmitted .scalarFloatMemory

/-- Indexed-ordered stores by `width` (30_encoding R343). -/
def decodeStoreOrdered (f : Fields) : Decoded :=
  match f.f3 with
  | 0 => .instr (.vsoxei8_v f.vm f.nf f.fd f.f1 f.f2)
  | 5 => .instr (.vsoxei16_v f.vm f.nf f.fd f.f1 f.f2)
  | 6 => .instr (.vsoxei32_v f.vm f.nf f.fd f.f1 f.f2)
  | 7 => .instr (.vsoxei64_v f.vm f.nf f.fd f.f1 f.f2)
  | _ => .unadmitted .scalarFloatMemory

/-- Whole-register loads: unmasked, `nf` 0, 1, 3 or 7 (30_encoding R343, R351, R352). -/
def decodeLoadWhole (f : Fields) : Decoded :=
  if f.vm then
    match f.nf, f.f3 with
    | 0, 0 => .instr (.vl1re8_v f.fd f.f1)
    | 0, 5 => .instr (.vl1re16_v f.fd f.f1)
    | 0, 6 => .instr (.vl1re32_v f.fd f.f1)
    | 0, 7 => .instr (.vl1re64_v f.fd f.f1)
    | 1, 0 => .instr (.vl2re8_v f.fd f.f1)
    | 1, 5 => .instr (.vl2re16_v f.fd f.f1)
    | 1, 6 => .instr (.vl2re32_v f.fd f.f1)
    | 1, 7 => .instr (.vl2re64_v f.fd f.f1)
    | 3, 0 => .instr (.vl4re8_v f.fd f.f1)
    | 3, 5 => .instr (.vl4re16_v f.fd f.f1)
    | 3, 6 => .instr (.vl4re32_v f.fd f.f1)
    | 3, 7 => .instr (.vl4re64_v f.fd f.f1)
    | 7, 0 => .instr (.vl8re8_v f.fd f.f1)
    | 7, 5 => .instr (.vl8re16_v f.fd f.f1)
    | 7, 6 => .instr (.vl8re32_v f.fd f.f1)
    | 7, 7 => .instr (.vl8re64_v f.fd f.f1)
    | _, _ => .reserved .nfField
  else .reserved .vmBit

/-- Whole-register stores: unmasked, `width` 000, `nf` 0, 1, 3 or 7 (30_encoding R343, R351, R352). -/
def decodeStoreWhole (f : Fields) : Decoded :=
  if f.vm then
    if f.f3 = 0 then
      match f.nf with
      | 0 => .instr (.vs1r_v f.fd f.f1)
      | 1 => .instr (.vs2r_v f.fd f.f1)
      | 3 => .instr (.vs4r_v f.fd f.f1)
      | 7 => .instr (.vs8r_v f.fd f.f1)
      | _ => .reserved .nfField
    else .reserved .widthField
  else .reserved .vmBit

/-- A mask load or store: unmasked, `width` 000, `nf` 0 (30_encoding R343, R351, R352). -/
def decodeMaskMemory (i : Instr) (f : Fields) : Decoded :=
  if f.vm then
    if f.f3 = 0 then
      if f.nf = 0 then .instr i else .reserved .nfField
    else .reserved .widthField
  else .reserved .vmBit

/-- Is `width` a vector width (30_encoding R308)? -/
def vectorWidth (f3 : Nat) : Bool := f3 == 0 || f3 == 5 || f3 == 6 || f3 == 7

/-- Format VL (30_encoding R306, R309, R310, R343). -/
def decodeLoad (f : Fields) : Decoded :=
  if vectorWidth f.f3 then
    if f.mew = 0 then
      match f.mop with
      | 0 =>
        match f.f2 with
        | 0 => decodeLoadUnit f
        | 8 => decodeLoadWhole f
        | 11 => decodeMaskMemory (.vlm_v f.fd f.f1) f
        | 16 => decodeLoadFirstFault f
        | _ => .reserved .unitStrideOp
      | 1 => decodeLoadUnordered f
      | 2 => decodeLoadStrided f
      | _ => decodeLoadOrdered f
    else .reserved .mewBit
  else .unadmitted .scalarFloatMemory

/-- Format VS (30_encoding R307, R309, R310, R343). -/
def decodeStore (f : Fields) : Decoded :=
  if vectorWidth f.f3 then
    if f.mew = 0 then
      match f.mop with
      | 0 =>
        match f.f2 with
        | 0 => decodeStoreUnit f
        | 8 => decodeStoreWhole f
        | 11 => decodeMaskMemory (.vsm_v f.fd f.f1) f
        | _ => .reserved .unitStrideOp
      | 1 => decodeStoreUnordered f
      | 2 => decodeStoreStrided f
      | _ => decodeStoreOrdered f
    else .reserved .mewBit
  else .unadmitted .scalarFloatMemory

/-- The major opcode tells the format (30_encoding R303). -/
def decodeFields (f : Fields) : Decoded :=
  match f.op with
  | 0x57 => decodeOpV f
  | 0x07 => decodeLoad f
  | 0x27 => decodeStore f
  | _ => .unadmitted .notVector

/-- The decoder: what a word is to this block (30_encoding R350). -/
def decode (w : InstrWord) : Decoded := decodeFields (Fields.ofWord w)

/-- The instruction the decoder reads from a row's bits; every row of the table is one 32-bit word (30_encoding R303). -/
def decodeTableWord (nbits w : Nat) : Option Instr :=
  match decode (BitVec.ofNat 32 (w % 2 ^ nbits)) with
  | .instr i => some i
  | _ => none

/-- Fields of format OP-V (30_encoding R304). -/
def opvFields (funct6 f3 : Nat) (vm : Bool) (f2 f1 fd : Nat) : Fields where
  nf := funct6 / 8
  mew := funct6 / 4 % 2
  mop := funct6 % 4
  vm := vm
  f2 := f2
  f1 := f1
  f3 := f3
  fd := fd
  op := 0x57

/-- Fields of formats VL (`op` 0x07) and VS (`op` 0x27) (30_encoding R306, R307). -/
def memFields (op nf mop : Nat) (vm : Bool) (f2 f1 f3 fd : Nat) : Fields where
  nf := nf
  mew := 0
  mop := mop
  vm := vm
  f2 := f2
  f1 := f1
  f3 := f3
  fd := fd
  op := op

/-- The fields an instruction's word has (30_encoding R340 to R343). -/
def Instr.fields : Instr → Fields
  | .vadd_vv vm vd vs2 vs1 => opvFields 0 0 vm vs2 vs1 vd
  | .vadd_vx vm vd vs2 rs1 => opvFields 0 4 vm vs2 rs1 vd
  | .vadd_vi vm vd vs2 imm5 => opvFields 0 3 vm vs2 imm5 vd
  | .vsub_vv vm vd vs2 vs1 => opvFields 2 0 vm vs2 vs1 vd
  | .vsub_vx vm vd vs2 rs1 => opvFields 2 4 vm vs2 rs1 vd
  | .vrsub_vx vm vd vs2 rs1 => opvFields 3 4 vm vs2 rs1 vd
  | .vrsub_vi vm vd vs2 imm5 => opvFields 3 3 vm vs2 imm5 vd
  | .vminu_vv vm vd vs2 vs1 => opvFields 4 0 vm vs2 vs1 vd
  | .vminu_vx vm vd vs2 rs1 => opvFields 4 4 vm vs2 rs1 vd
  | .vmin_vv vm vd vs2 vs1 => opvFields 5 0 vm vs2 vs1 vd
  | .vmin_vx vm vd vs2 rs1 => opvFields 5 4 vm vs2 rs1 vd
  | .vmaxu_vv vm vd vs2 vs1 => opvFields 6 0 vm vs2 vs1 vd
  | .vmaxu_vx vm vd vs2 rs1 => opvFields 6 4 vm vs2 rs1 vd
  | .vmax_vv vm vd vs2 vs1 => opvFields 7 0 vm vs2 vs1 vd
  | .vmax_vx vm vd vs2 rs1 => opvFields 7 4 vm vs2 rs1 vd
  | .vand_vv vm vd vs2 vs1 => opvFields 9 0 vm vs2 vs1 vd
  | .vand_vx vm vd vs2 rs1 => opvFields 9 4 vm vs2 rs1 vd
  | .vand_vi vm vd vs2 imm5 => opvFields 9 3 vm vs2 imm5 vd
  | .vor_vv vm vd vs2 vs1 => opvFields 10 0 vm vs2 vs1 vd
  | .vor_vx vm vd vs2 rs1 => opvFields 10 4 vm vs2 rs1 vd
  | .vor_vi vm vd vs2 imm5 => opvFields 10 3 vm vs2 imm5 vd
  | .vxor_vv vm vd vs2 vs1 => opvFields 11 0 vm vs2 vs1 vd
  | .vxor_vx vm vd vs2 rs1 => opvFields 11 4 vm vs2 rs1 vd
  | .vxor_vi vm vd vs2 imm5 => opvFields 11 3 vm vs2 imm5 vd
  | .vrgather_vv vm vd vs2 vs1 => opvFields 12 0 vm vs2 vs1 vd
  | .vrgather_vx vm vd vs2 rs1 => opvFields 12 4 vm vs2 rs1 vd
  | .vrgather_vi vm vd vs2 imm5 => opvFields 12 3 vm vs2 imm5 vd
  | .vslideup_vx vm vd vs2 rs1 => opvFields 14 4 vm vs2 rs1 vd
  | .vslideup_vi vm vd vs2 imm5 => opvFields 14 3 vm vs2 imm5 vd
  | .vslidedown_vx vm vd vs2 rs1 => opvFields 15 4 vm vs2 rs1 vd
  | .vslidedown_vi vm vd vs2 imm5 => opvFields 15 3 vm vs2 imm5 vd
  | .vadc_vvm vd vs2 vs1 => opvFields 16 0 false vs2 vs1 vd
  | .vadc_vxm vd vs2 rs1 => opvFields 16 4 false vs2 rs1 vd
  | .vadc_vim vd vs2 imm5 => opvFields 16 3 false vs2 imm5 vd
  | .vmadc_vvm vd vs2 vs1 => opvFields 17 0 false vs2 vs1 vd
  | .vmadc_vxm vd vs2 rs1 => opvFields 17 4 false vs2 rs1 vd
  | .vmadc_vim vd vs2 imm5 => opvFields 17 3 false vs2 imm5 vd
  | .vmadc_vv vd vs2 vs1 => opvFields 17 0 true vs2 vs1 vd
  | .vmadc_vx vd vs2 rs1 => opvFields 17 4 true vs2 rs1 vd
  | .vmadc_vi vd vs2 imm5 => opvFields 17 3 true vs2 imm5 vd
  | .vsbc_vvm vd vs2 vs1 => opvFields 18 0 false vs2 vs1 vd
  | .vsbc_vxm vd vs2 rs1 => opvFields 18 4 false vs2 rs1 vd
  | .vmsbc_vvm vd vs2 vs1 => opvFields 19 0 false vs2 vs1 vd
  | .vmsbc_vxm vd vs2 rs1 => opvFields 19 4 false vs2 rs1 vd
  | .vmsbc_vv vd vs2 vs1 => opvFields 19 0 true vs2 vs1 vd
  | .vmsbc_vx vd vs2 rs1 => opvFields 19 4 true vs2 rs1 vd
  | .vmseq_vv vm vd vs2 vs1 => opvFields 24 0 vm vs2 vs1 vd
  | .vmseq_vx vm vd vs2 rs1 => opvFields 24 4 vm vs2 rs1 vd
  | .vmseq_vi vm vd vs2 imm5 => opvFields 24 3 vm vs2 imm5 vd
  | .vmsne_vv vm vd vs2 vs1 => opvFields 25 0 vm vs2 vs1 vd
  | .vmsne_vx vm vd vs2 rs1 => opvFields 25 4 vm vs2 rs1 vd
  | .vmsne_vi vm vd vs2 imm5 => opvFields 25 3 vm vs2 imm5 vd
  | .vmsltu_vv vm vd vs2 vs1 => opvFields 26 0 vm vs2 vs1 vd
  | .vmsltu_vx vm vd vs2 rs1 => opvFields 26 4 vm vs2 rs1 vd
  | .vmslt_vv vm vd vs2 vs1 => opvFields 27 0 vm vs2 vs1 vd
  | .vmslt_vx vm vd vs2 rs1 => opvFields 27 4 vm vs2 rs1 vd
  | .vmsleu_vv vm vd vs2 vs1 => opvFields 28 0 vm vs2 vs1 vd
  | .vmsleu_vx vm vd vs2 rs1 => opvFields 28 4 vm vs2 rs1 vd
  | .vmsleu_vi vm vd vs2 imm5 => opvFields 28 3 vm vs2 imm5 vd
  | .vmsle_vv vm vd vs2 vs1 => opvFields 29 0 vm vs2 vs1 vd
  | .vmsle_vx vm vd vs2 rs1 => opvFields 29 4 vm vs2 rs1 vd
  | .vmsle_vi vm vd vs2 imm5 => opvFields 29 3 vm vs2 imm5 vd
  | .vmsgtu_vx vm vd vs2 rs1 => opvFields 30 4 vm vs2 rs1 vd
  | .vmsgtu_vi vm vd vs2 imm5 => opvFields 30 3 vm vs2 imm5 vd
  | .vmsgt_vx vm vd vs2 rs1 => opvFields 31 4 vm vs2 rs1 vd
  | .vmsgt_vi vm vd vs2 imm5 => opvFields 31 3 vm vs2 imm5 vd
  | .vsaddu_vv vm vd vs2 vs1 => opvFields 32 0 vm vs2 vs1 vd
  | .vsaddu_vx vm vd vs2 rs1 => opvFields 32 4 vm vs2 rs1 vd
  | .vsaddu_vi vm vd vs2 imm5 => opvFields 32 3 vm vs2 imm5 vd
  | .vsadd_vv vm vd vs2 vs1 => opvFields 33 0 vm vs2 vs1 vd
  | .vsadd_vx vm vd vs2 rs1 => opvFields 33 4 vm vs2 rs1 vd
  | .vsadd_vi vm vd vs2 imm5 => opvFields 33 3 vm vs2 imm5 vd
  | .vssubu_vv vm vd vs2 vs1 => opvFields 34 0 vm vs2 vs1 vd
  | .vssubu_vx vm vd vs2 rs1 => opvFields 34 4 vm vs2 rs1 vd
  | .vssub_vv vm vd vs2 vs1 => opvFields 35 0 vm vs2 vs1 vd
  | .vssub_vx vm vd vs2 rs1 => opvFields 35 4 vm vs2 rs1 vd
  | .vsll_vv vm vd vs2 vs1 => opvFields 37 0 vm vs2 vs1 vd
  | .vsll_vx vm vd vs2 rs1 => opvFields 37 4 vm vs2 rs1 vd
  | .vsll_vi vm vd vs2 imm5 => opvFields 37 3 vm vs2 imm5 vd
  | .vsmul_vv vm vd vs2 vs1 => opvFields 39 0 vm vs2 vs1 vd
  | .vsmul_vx vm vd vs2 rs1 => opvFields 39 4 vm vs2 rs1 vd
  | .vsrl_vv vm vd vs2 vs1 => opvFields 40 0 vm vs2 vs1 vd
  | .vsrl_vx vm vd vs2 rs1 => opvFields 40 4 vm vs2 rs1 vd
  | .vsrl_vi vm vd vs2 imm5 => opvFields 40 3 vm vs2 imm5 vd
  | .vsra_vv vm vd vs2 vs1 => opvFields 41 0 vm vs2 vs1 vd
  | .vsra_vx vm vd vs2 rs1 => opvFields 41 4 vm vs2 rs1 vd
  | .vsra_vi vm vd vs2 imm5 => opvFields 41 3 vm vs2 imm5 vd
  | .vssrl_vv vm vd vs2 vs1 => opvFields 42 0 vm vs2 vs1 vd
  | .vssrl_vx vm vd vs2 rs1 => opvFields 42 4 vm vs2 rs1 vd
  | .vssrl_vi vm vd vs2 imm5 => opvFields 42 3 vm vs2 imm5 vd
  | .vssra_vv vm vd vs2 vs1 => opvFields 43 0 vm vs2 vs1 vd
  | .vssra_vx vm vd vs2 rs1 => opvFields 43 4 vm vs2 rs1 vd
  | .vssra_vi vm vd vs2 imm5 => opvFields 43 3 vm vs2 imm5 vd
  | .vnsrl_wv vm vd vs2 vs1 => opvFields 44 0 vm vs2 vs1 vd
  | .vnsrl_wx vm vd vs2 rs1 => opvFields 44 4 vm vs2 rs1 vd
  | .vnsrl_wi vm vd vs2 imm5 => opvFields 44 3 vm vs2 imm5 vd
  | .vnsra_wv vm vd vs2 vs1 => opvFields 45 0 vm vs2 vs1 vd
  | .vnsra_wx vm vd vs2 rs1 => opvFields 45 4 vm vs2 rs1 vd
  | .vnsra_wi vm vd vs2 imm5 => opvFields 45 3 vm vs2 imm5 vd
  | .vnclipu_wv vm vd vs2 vs1 => opvFields 46 0 vm vs2 vs1 vd
  | .vnclipu_wx vm vd vs2 rs1 => opvFields 46 4 vm vs2 rs1 vd
  | .vnclipu_wi vm vd vs2 imm5 => opvFields 46 3 vm vs2 imm5 vd
  | .vnclip_wv vm vd vs2 vs1 => opvFields 47 0 vm vs2 vs1 vd
  | .vnclip_wx vm vd vs2 rs1 => opvFields 47 4 vm vs2 rs1 vd
  | .vnclip_wi vm vd vs2 imm5 => opvFields 47 3 vm vs2 imm5 vd
  | .vwredsumu_vs vm vd vs2 vs1 => opvFields 48 0 vm vs2 vs1 vd
  | .vwredsum_vs vm vd vs2 vs1 => opvFields 49 0 vm vs2 vs1 vd
  | .vredsum_vs vm vd vs2 vs1 => opvFields 0 2 vm vs2 vs1 vd
  | .vredand_vs vm vd vs2 vs1 => opvFields 1 2 vm vs2 vs1 vd
  | .vredor_vs vm vd vs2 vs1 => opvFields 2 2 vm vs2 vs1 vd
  | .vredxor_vs vm vd vs2 vs1 => opvFields 3 2 vm vs2 vs1 vd
  | .vredminu_vs vm vd vs2 vs1 => opvFields 4 2 vm vs2 vs1 vd
  | .vredmin_vs vm vd vs2 vs1 => opvFields 5 2 vm vs2 vs1 vd
  | .vredmaxu_vs vm vd vs2 vs1 => opvFields 6 2 vm vs2 vs1 vd
  | .vredmax_vs vm vd vs2 vs1 => opvFields 7 2 vm vs2 vs1 vd
  | .vaaddu_vv vm vd vs2 vs1 => opvFields 8 2 vm vs2 vs1 vd
  | .vaaddu_vx vm vd vs2 rs1 => opvFields 8 6 vm vs2 rs1 vd
  | .vaadd_vv vm vd vs2 vs1 => opvFields 9 2 vm vs2 vs1 vd
  | .vaadd_vx vm vd vs2 rs1 => opvFields 9 6 vm vs2 rs1 vd
  | .vasubu_vv vm vd vs2 vs1 => opvFields 10 2 vm vs2 vs1 vd
  | .vasubu_vx vm vd vs2 rs1 => opvFields 10 6 vm vs2 rs1 vd
  | .vasub_vv vm vd vs2 vs1 => opvFields 11 2 vm vs2 vs1 vd
  | .vasub_vx vm vd vs2 rs1 => opvFields 11 6 vm vs2 rs1 vd
  | .vslide1up_vx vm vd vs2 rs1 => opvFields 14 6 vm vs2 rs1 vd
  | .vslide1down_vx vm vd vs2 rs1 => opvFields 15 6 vm vs2 rs1 vd
  | .vzext_vf8 vm vd vs2 => opvFields 18 2 vm vs2 2 vd
  | .vsext_vf8 vm vd vs2 => opvFields 18 2 vm vs2 3 vd
  | .vzext_vf4 vm vd vs2 => opvFields 18 2 vm vs2 4 vd
  | .vsext_vf4 vm vd vs2 => opvFields 18 2 vm vs2 5 vd
  | .vzext_vf2 vm vd vs2 => opvFields 18 2 vm vs2 6 vd
  | .vsext_vf2 vm vd vs2 => opvFields 18 2 vm vs2 7 vd
  | .vdivu_vv vm vd vs2 vs1 => opvFields 32 2 vm vs2 vs1 vd
  | .vdivu_vx vm vd vs2 rs1 => opvFields 32 6 vm vs2 rs1 vd
  | .vdiv_vv vm vd vs2 vs1 => opvFields 33 2 vm vs2 vs1 vd
  | .vdiv_vx vm vd vs2 rs1 => opvFields 33 6 vm vs2 rs1 vd
  | .vremu_vv vm vd vs2 vs1 => opvFields 34 2 vm vs2 vs1 vd
  | .vremu_vx vm vd vs2 rs1 => opvFields 34 6 vm vs2 rs1 vd
  | .vrem_vv vm vd vs2 vs1 => opvFields 35 2 vm vs2 vs1 vd
  | .vrem_vx vm vd vs2 rs1 => opvFields 35 6 vm vs2 rs1 vd
  | .vmulhu_vv vm vd vs2 vs1 => opvFields 36 2 vm vs2 vs1 vd
  | .vmulhu_vx vm vd vs2 rs1 => opvFields 36 6 vm vs2 rs1 vd
  | .vmul_vv vm vd vs2 vs1 => opvFields 37 2 vm vs2 vs1 vd
  | .vmul_vx vm vd vs2 rs1 => opvFields 37 6 vm vs2 rs1 vd
  | .vmulhsu_vv vm vd vs2 vs1 => opvFields 38 2 vm vs2 vs1 vd
  | .vmulhsu_vx vm vd vs2 rs1 => opvFields 38 6 vm vs2 rs1 vd
  | .vmulh_vv vm vd vs2 vs1 => opvFields 39 2 vm vs2 vs1 vd
  | .vmulh_vx vm vd vs2 rs1 => opvFields 39 6 vm vs2 rs1 vd
  | .vmadd_vv vm vd vs2 vs1 => opvFields 41 2 vm vs2 vs1 vd
  | .vmadd_vx vm vd vs2 rs1 => opvFields 41 6 vm vs2 rs1 vd
  | .vnmsub_vv vm vd vs2 vs1 => opvFields 43 2 vm vs2 vs1 vd
  | .vnmsub_vx vm vd vs2 rs1 => opvFields 43 6 vm vs2 rs1 vd
  | .vmacc_vv vm vd vs2 vs1 => opvFields 45 2 vm vs2 vs1 vd
  | .vmacc_vx vm vd vs2 rs1 => opvFields 45 6 vm vs2 rs1 vd
  | .vnmsac_vv vm vd vs2 vs1 => opvFields 47 2 vm vs2 vs1 vd
  | .vnmsac_vx vm vd vs2 rs1 => opvFields 47 6 vm vs2 rs1 vd
  | .vwaddu_vv vm vd vs2 vs1 => opvFields 48 2 vm vs2 vs1 vd
  | .vwaddu_vx vm vd vs2 rs1 => opvFields 48 6 vm vs2 rs1 vd
  | .vwadd_vv vm vd vs2 vs1 => opvFields 49 2 vm vs2 vs1 vd
  | .vwadd_vx vm vd vs2 rs1 => opvFields 49 6 vm vs2 rs1 vd
  | .vwsubu_vv vm vd vs2 vs1 => opvFields 50 2 vm vs2 vs1 vd
  | .vwsubu_vx vm vd vs2 rs1 => opvFields 50 6 vm vs2 rs1 vd
  | .vwsub_vv vm vd vs2 vs1 => opvFields 51 2 vm vs2 vs1 vd
  | .vwsub_vx vm vd vs2 rs1 => opvFields 51 6 vm vs2 rs1 vd
  | .vwaddu_wv vm vd vs2 vs1 => opvFields 52 2 vm vs2 vs1 vd
  | .vwaddu_wx vm vd vs2 rs1 => opvFields 52 6 vm vs2 rs1 vd
  | .vwadd_wv vm vd vs2 vs1 => opvFields 53 2 vm vs2 vs1 vd
  | .vwadd_wx vm vd vs2 rs1 => opvFields 53 6 vm vs2 rs1 vd
  | .vwsubu_wv vm vd vs2 vs1 => opvFields 54 2 vm vs2 vs1 vd
  | .vwsubu_wx vm vd vs2 rs1 => opvFields 54 6 vm vs2 rs1 vd
  | .vwsub_wv vm vd vs2 vs1 => opvFields 55 2 vm vs2 vs1 vd
  | .vwsub_wx vm vd vs2 rs1 => opvFields 55 6 vm vs2 rs1 vd
  | .vwmulu_vv vm vd vs2 vs1 => opvFields 56 2 vm vs2 vs1 vd
  | .vwmulu_vx vm vd vs2 rs1 => opvFields 56 6 vm vs2 rs1 vd
  | .vwmulsu_vv vm vd vs2 vs1 => opvFields 58 2 vm vs2 vs1 vd
  | .vwmulsu_vx vm vd vs2 rs1 => opvFields 58 6 vm vs2 rs1 vd
  | .vwmul_vv vm vd vs2 vs1 => opvFields 59 2 vm vs2 vs1 vd
  | .vwmul_vx vm vd vs2 rs1 => opvFields 59 6 vm vs2 rs1 vd
  | .vwmaccu_vv vm vd vs2 vs1 => opvFields 60 2 vm vs2 vs1 vd
  | .vwmaccu_vx vm vd vs2 rs1 => opvFields 60 6 vm vs2 rs1 vd
  | .vwmacc_vv vm vd vs2 vs1 => opvFields 61 2 vm vs2 vs1 vd
  | .vwmacc_vx vm vd vs2 rs1 => opvFields 61 6 vm vs2 rs1 vd
  | .vwmaccus_vx vm vd vs2 rs1 => opvFields 62 6 vm vs2 rs1 vd
  | .vwmaccsu_vv vm vd vs2 vs1 => opvFields 63 2 vm vs2 vs1 vd
  | .vwmaccsu_vx vm vd vs2 rs1 => opvFields 63 6 vm vs2 rs1 vd
  | .vle8_v vm nf vd rs1 => memFields 0x07 nf 0 vm 0 rs1 0 vd
  | .vle8ff_v vm nf vd rs1 => memFields 0x07 nf 0 vm 16 rs1 0 vd
  | .vlse8_v vm nf vd rs1 rs2 => memFields 0x07 nf 2 vm rs2 rs1 0 vd
  | .vluxei8_v vm nf vd rs1 vs2 => memFields 0x07 nf 1 vm vs2 rs1 0 vd
  | .vloxei8_v vm nf vd rs1 vs2 => memFields 0x07 nf 3 vm vs2 rs1 0 vd
  | .vse8_v vm nf vs3 rs1 => memFields 0x27 nf 0 vm 0 rs1 0 vs3
  | .vsse8_v vm nf vs3 rs1 rs2 => memFields 0x27 nf 2 vm rs2 rs1 0 vs3
  | .vsuxei8_v vm nf vs3 rs1 vs2 => memFields 0x27 nf 1 vm vs2 rs1 0 vs3
  | .vsoxei8_v vm nf vs3 rs1 vs2 => memFields 0x27 nf 3 vm vs2 rs1 0 vs3
  | .vle16_v vm nf vd rs1 => memFields 0x07 nf 0 vm 0 rs1 5 vd
  | .vle16ff_v vm nf vd rs1 => memFields 0x07 nf 0 vm 16 rs1 5 vd
  | .vlse16_v vm nf vd rs1 rs2 => memFields 0x07 nf 2 vm rs2 rs1 5 vd
  | .vluxei16_v vm nf vd rs1 vs2 => memFields 0x07 nf 1 vm vs2 rs1 5 vd
  | .vloxei16_v vm nf vd rs1 vs2 => memFields 0x07 nf 3 vm vs2 rs1 5 vd
  | .vse16_v vm nf vs3 rs1 => memFields 0x27 nf 0 vm 0 rs1 5 vs3
  | .vsse16_v vm nf vs3 rs1 rs2 => memFields 0x27 nf 2 vm rs2 rs1 5 vs3
  | .vsuxei16_v vm nf vs3 rs1 vs2 => memFields 0x27 nf 1 vm vs2 rs1 5 vs3
  | .vsoxei16_v vm nf vs3 rs1 vs2 => memFields 0x27 nf 3 vm vs2 rs1 5 vs3
  | .vle32_v vm nf vd rs1 => memFields 0x07 nf 0 vm 0 rs1 6 vd
  | .vle32ff_v vm nf vd rs1 => memFields 0x07 nf 0 vm 16 rs1 6 vd
  | .vlse32_v vm nf vd rs1 rs2 => memFields 0x07 nf 2 vm rs2 rs1 6 vd
  | .vluxei32_v vm nf vd rs1 vs2 => memFields 0x07 nf 1 vm vs2 rs1 6 vd
  | .vloxei32_v vm nf vd rs1 vs2 => memFields 0x07 nf 3 vm vs2 rs1 6 vd
  | .vse32_v vm nf vs3 rs1 => memFields 0x27 nf 0 vm 0 rs1 6 vs3
  | .vsse32_v vm nf vs3 rs1 rs2 => memFields 0x27 nf 2 vm rs2 rs1 6 vs3
  | .vsuxei32_v vm nf vs3 rs1 vs2 => memFields 0x27 nf 1 vm vs2 rs1 6 vs3
  | .vsoxei32_v vm nf vs3 rs1 vs2 => memFields 0x27 nf 3 vm vs2 rs1 6 vs3
  | .vle64_v vm nf vd rs1 => memFields 0x07 nf 0 vm 0 rs1 7 vd
  | .vle64ff_v vm nf vd rs1 => memFields 0x07 nf 0 vm 16 rs1 7 vd
  | .vlse64_v vm nf vd rs1 rs2 => memFields 0x07 nf 2 vm rs2 rs1 7 vd
  | .vluxei64_v vm nf vd rs1 vs2 => memFields 0x07 nf 1 vm vs2 rs1 7 vd
  | .vloxei64_v vm nf vd rs1 vs2 => memFields 0x07 nf 3 vm vs2 rs1 7 vd
  | .vse64_v vm nf vs3 rs1 => memFields 0x27 nf 0 vm 0 rs1 7 vs3
  | .vsse64_v vm nf vs3 rs1 rs2 => memFields 0x27 nf 2 vm rs2 rs1 7 vs3
  | .vsuxei64_v vm nf vs3 rs1 vs2 => memFields 0x27 nf 1 vm vs2 rs1 7 vs3
  | .vsoxei64_v vm nf vs3 rs1 vs2 => memFields 0x27 nf 3 vm vs2 rs1 7 vs3
  | .vl1re8_v vd rs1 => memFields 0x07 0 0 true 8 rs1 0 vd
  | .vl1re16_v vd rs1 => memFields 0x07 0 0 true 8 rs1 5 vd
  | .vl1re32_v vd rs1 => memFields 0x07 0 0 true 8 rs1 6 vd
  | .vl1re64_v vd rs1 => memFields 0x07 0 0 true 8 rs1 7 vd
  | .vs1r_v vs3 rs1 => memFields 0x27 0 0 true 8 rs1 0 vs3
  | .vl2re8_v vd rs1 => memFields 0x07 1 0 true 8 rs1 0 vd
  | .vl2re16_v vd rs1 => memFields 0x07 1 0 true 8 rs1 5 vd
  | .vl2re32_v vd rs1 => memFields 0x07 1 0 true 8 rs1 6 vd
  | .vl2re64_v vd rs1 => memFields 0x07 1 0 true 8 rs1 7 vd
  | .vs2r_v vs3 rs1 => memFields 0x27 1 0 true 8 rs1 0 vs3
  | .vl4re8_v vd rs1 => memFields 0x07 3 0 true 8 rs1 0 vd
  | .vl4re16_v vd rs1 => memFields 0x07 3 0 true 8 rs1 5 vd
  | .vl4re32_v vd rs1 => memFields 0x07 3 0 true 8 rs1 6 vd
  | .vl4re64_v vd rs1 => memFields 0x07 3 0 true 8 rs1 7 vd
  | .vs4r_v vs3 rs1 => memFields 0x27 3 0 true 8 rs1 0 vs3
  | .vl8re8_v vd rs1 => memFields 0x07 7 0 true 8 rs1 0 vd
  | .vl8re16_v vd rs1 => memFields 0x07 7 0 true 8 rs1 5 vd
  | .vl8re32_v vd rs1 => memFields 0x07 7 0 true 8 rs1 6 vd
  | .vl8re64_v vd rs1 => memFields 0x07 7 0 true 8 rs1 7 vd
  | .vs8r_v vs3 rs1 => memFields 0x27 7 0 true 8 rs1 0 vs3
  | .vlm_v vd rs1 => memFields 0x07 0 0 true 11 rs1 0 vd
  | .vsm_v vs3 rs1 => memFields 0x27 0 0 true 11 rs1 0 vs3

/-- The encoder: the word of an instruction, meant for a well-formed one. -/
def encode (i : Instr) : InstrWord := i.fields.toWord

end Sys2Proof
end

