-- ==== Sys2Proof/Machine/State.lean ====
section
/-! DEFINITION. The state of the engine (10_state) and of the collaborators its rules name (60_exceptions R1240), as plain
data; the faults and refusals; the state after reset. -/

namespace Sys2Proof.Machine

/-- The vector register file is left: an element offset outside it. Raised by the register-file accessors only. SAFE: the
spec gives such an access no meaning and asks for a model fault (40_element_engine R412). -/
inductive Fault where
  | vrfOutOfRange
  deriving DecidableEq, Repr

/-- Why a step has no meaning. A refusal changes no state and ends the run (60_exceptions R1204). -/
inductive Refusal where
  /-- An instruction that has no meaning in this model yet. Raised by `exec`'s arms. SAFE: the run ends. -/
  | notModelled (mnemonic : String)
  /-- The typing state breaks the precondition of 10_state R112. Raised by every command. SAFE: the spec refuses it. -/
  | typingState
  /-- The word is no admitted instruction (00_scope R9, 30_encoding R350). Raised by `step`. SAFE: the spec refuses it. -/
  | unadmitted (why : Unadmitted)
  /-- The dispatcher holds no program word at the pc (70_reset R1304; log 7). Raised by `step`. SAFE: the run ends. -/
  | noCommand
  deriving DecidableEq, Repr

/-- The memory of a byte-addressed file or space, held sparsely: address and byte pairs. Used for memory, for the register
file and for the register file's marks. `Memory.wf` is its canonical form. -/
abbrev Memory := List Host.Cell

/-- `vxrm`'s four modes (10_state R110). -/
inductive RoundMode where
  | rnu
  | rne
  | rdn
  | rod
  deriving DecidableEq, Repr

/-- What the memory collaborator's fault record says went wrong (60_exceptions R1206). -/
inductive FaultKind where
  | misaligned
  | access
  | page
  deriving DecidableEq, Repr

/-- The memory collaborator's fault record `info`: the kind, and the address of the failing call (60_exceptions R1206; log 5). -/
structure FaultInfo where
  kind : FaultKind
  addr : Nat
  deriving DecidableEq, Repr

/-- The engine's trap signals (60_exceptions R1200); `store` tells a store's fault from a load's (R1206). -/
inductive Trap where
  | illegalInstruction
  | memFault (store : Bool) (info : FaultInfo)
  deriving DecidableEq, Repr

/-- The result of a command (30_encoding R302); its fourth value, Refused, is `Host.Outcome.refused`. -/
inductive CmdResult where
  | done
  | trap (t : Trap)
  deriving DecidableEq, Repr

/-- What the memory collaborator does at one call, an input of the model (20_memory R209; log 4): its own agents' writes
just before the call, and whether the call faults. -/
structure Answer where
  agents : List Host.Cell
  fault : Option FaultKind
  deriving DecidableEq, Repr

/-- The three primitives of the memory port (00_scope R17). -/
inductive CallKind where
  | read
  | write
  | probe
  deriving DecidableEq, Repr

/-- One call of the memory port as recorded (20_memory R209): `data` is the value read or written. -/
structure MemEvent where
  call : CallKind
  addr : Nat
  size : Nat
  data : Nat
  fault : Option FaultInfo
  deriving DecidableEq, Repr

/-- What a collaborator does between two commands (60_exceptions R1240, 70_reset R1303; log 13). -/
inductive CollabAction where
  /-- A CSR write by the scalar CPU (10_state R113, 60_exceptions R1231). -/
  | csrWrite (num value : Nat)
  /-- The typing state a configuration instruction leaves (10_state R104). -/
  | configure (vsew vlmul : BitVec 3) (vta vma vill : Bool) (vl : Nat)
  /-- The scalar CPU writes a scalar register (10_state R119). -/
  | writeX (r : Nat) (value : BitVec 64)
  /-- The host writes a byte of the register file (10_state R121). -/
  | writeVrf (off : Nat) (value : Byte)
  /-- The scalar CPU enables or disables the vector unit (70_reset R1303). -/
  | enableVector (on : Bool)
  /-- The scalar CPU sets the trap vector (60_exceptions R1210). -/
  | setTrapVector (addr : Nat)
  /-- The scalar CPU's trap-return instruction (60_exceptions R1211). -/
  | trapReturn
  /-- A launch: the program's words at a launch address (70_reset R1304). -/
  | launch (addr : Nat) (words : List InstrWord)
  /-- Reset of the hardware thread context (70_reset R1300). -/
  | reset
  deriving DecidableEq, Repr

/-- The state. The comment of a field names the rule that gives it. -/
structure State where
  /-- The parameters of this machine; no step changes them (00_scope R11; log 1). -/
  cfg : Config
  /-- The vector register file: byte `r * VLENB + k` is byte `k` of register `r` (10_state R100). -/
  vrf : Memory
  /-- Per VRF bit, whether a write has set it since reset (10_state R121). -/
  vrfWritten : Memory
  /-- MODEL's own: the gone-wrong bit, a VRF bit with no mark was read (10_state R121; log 2). -/
  readUnwritten : Bool
  /-- 10_state R105. -/
  vsew : BitVec 3
  /-- 10_state R106. -/
  vlmul : BitVec 3
  /-- 10_state R113. -/
  vta : Bool
  /-- 10_state R113. -/
  vma : Bool
  /-- 10_state R113. -/
  vill : Bool
  /-- 10_state R108. -/
  vl : Nat
  /-- 10_state R109. -/
  vstart : Nat
  /-- 10_state R110. -/
  vxrm : RoundMode
  /-- 10_state R111. -/
  vxsat : Bool
  /-- The mask-byte touch tracker; empty between commands (10_state R116). -/
  touched : List Nat
  /-- MODEL's own: the elements whose mask bit this command wrote; empty between commands (40_element_engine R405; log 6). -/
  maskBits : List Nat
  /-- The fault-only-first pending fault; none between commands (10_state R117). -/
  ffPending : Option FaultInfo
  /-- MODEL's own: the free mask bits drawn so far (log 6). -/
  freeDraws : Nat
  /-- Memory as the memory collaborator holds it (20_memory R200, 70_reset R1304). -/
  mem : Memory
  /-- The memory collaborator's answers still to come (20_memory R209; log 4). -/
  answers : List Answer
  /-- The calls made, in order (20_memory R209). -/
  trace : List MemEvent
  /-- The scalar values the dispatcher hands over, `x[r]` at index `r` (30_encoding R301, R320). -/
  x : List (BitVec 64)
  /-- The dispatcher's pc (60_exceptions R1220). -/
  pc : Nat
  /-- The launch address `a0` (70_reset R1304). -/
  launch : Nat
  /-- The program's words, the first at the launch address (70_reset R1304). -/
  program : List InstrWord
  /-- The vector unit is enabled in the scalar CPU's control state (60_exceptions R1201). -/
  vsOn : Bool
  /-- 60_exceptions R1210. -/
  xepc : Nat
  /-- 60_exceptions R1206, R1210. -/
  xcause : Nat
  /-- 60_exceptions R1206, R1210. -/
  xtval : Nat
  /-- 60_exceptions R1210. -/
  xtvec : Nat
  /-- The last command's result (30_encoding R302). -/
  result : Option CmdResult
  /-- The collaborators' actions still to come (60_exceptions R1240; log 13). -/
  inbox : List CollabAction
  deriving DecidableEq, Repr

/-- The state right after reset of a machine with parameters `c` (10_state R121, 70_reset R1300). The values the spec does not
give are DESIGN CHOICEs: log 2, 3, 4, 6, 8, 9, 10, 12, 13, 19. -/
def State.resetOf (c : Config) : State where
  cfg := c
  vrf := []
  vrfWritten := []
  readUnwritten := false
  vsew := 0
  vlmul := 0
  vta := false
  vma := false
  vill := false
  vl := 0
  vstart := 0
  vxrm := .rnu
  vxsat := false
  touched := []
  maskBits := []
  ffPending := none
  freeDraws := 0
  mem := []
  answers := []
  trace := []
  x := List.replicate 32 0
  pc := c.resetVector
  launch := c.resetVector
  program := []
  vsOn := true
  xepc := 0
  xcause := 0
  xtval := 0
  xtvec := 0
  result := none
  inbox := []

/-- The machine right after reset, at the default parameters (10_state R121; log 1). -/
def State.reset : State := State.resetOf Config.default

/-- How a command's run ends before its loop does. -/
inductive Stop where
  /-- `raise` (00_scope R18). -/
  | trap (t : Trap) (s : State)
  /-- `done` from inside the loop, a fault-only-first truncation (42_memory_access R520). -/
  | finished (s : State)
  /-- A model fault (40_element_engine R412). -/
  | fault (f : Fault)
  deriving DecidableEq, Repr

/-- A part of a command's run: a value, or an early end. -/
abbrev Run (α : Type) := Except Stop α

end Sys2Proof.Machine
end

