-- ==== Sys2Proof/Machine/Ops.lean ====
section
/-! DEFINITION. The named operations every instruction is made of: the sparse byte store, the typing state and the shape
validator (41), the element address translator and the register-file accessors (40), the mask controller (40), the memory port
(20), the two loops (40), taking a trap and returning from one (60), and the running of one command (40_element_engine R400). -/

namespace Sys2Proof.Machine

/-! ### The byte store -/

/-- What an unlisted byte reads as: 0. DESIGN CHOICE for the register file (log 2) and for memory (log 3); a clear mark for the
register file's marks (10_state R121). -/
def unlistedByte : Byte := 0

/-- The byte at an address. -/
def Memory.read : Memory → Nat → Byte
  | [], _ => unlistedByte
  | (a, b) :: m, k => if k = a then b else Memory.read m k

/-- Store a byte, keeping the canonical form. -/
def Memory.write : Memory → Nat → Byte → Memory
  | [], k, v => if v = unlistedByte then [] else [(k, v)]
  | (a, b) :: m, k, v =>
    if k < a then
      if v = unlistedByte then (a, b) :: m else (k, v) :: (a, b) :: m
    else if k = a then
      if v = unlistedByte then m else (k, v) :: m
    else (a, b) :: Memory.write m k v

/-- Every address of the store is above `k`. -/
def Memory.above (k : Nat) : Memory → Bool
  | [] => true
  | (a, _) :: m => k < a && Memory.above k m

/-- The canonical form: addresses strictly rising, and no entry equal to what an unlisted address reads as. -/
def Memory.wf : Memory → Bool
  | [] => true
  | (a, b) :: m => b != unlistedByte && Memory.above a m && Memory.wf m

/-- The little-endian value of the bytes at a list of addresses (10_state R103, 20_memory R203). -/
def Memory.readList (m : Memory) : List Nat → Nat
  | [] => 0
  | a :: as => (Memory.read m a).toNat + 256 * Memory.readList m as

/-- Store a value's bytes at a list of addresses, the least significant first (10_state R103, 20_memory R203). -/
def Memory.writeList (m : Memory) : List Nat → Nat → Memory
  | [], _ => m
  | a :: as, v => Memory.writeList (Memory.write m a (BitVec.ofNat 8 v)) as (v / 256)

/-- Store one byte value at every address of a list. -/
def Memory.fill (m : Memory) (v : Byte) : List Nat → Memory
  | [] => m
  | a :: as => Memory.fill (Memory.write m a v) v as

/-- Store a list of cells, in order. -/
def Memory.writeCells (m : Memory) : List Host.Cell → Memory
  | [] => m
  | (a, v) :: cs => Memory.writeCells (Memory.write m a v) cs

/-! ### Scalars and addresses -/

/-- `2^XLEN`. -/
def State.xmod (s : State) : Nat := 2 ^ s.cfg.xlen.bits

/-- `A(z) = z mod 2^XLEN` (42_memory_access R501, 20_memory R200). -/
def State.addr (s : State) (z : Int) : Nat := (z % (s.xmod : Int)).toNat

/-- `x[r]` as the dispatcher hands it over: XLEN bits, `x0` reads 0 (30_encoding R320). -/
def State.xval (s : State) (r : Nat) : Nat := if r = 0 then 0 else (s.x.getD r 0).toNat % s.xmod

/-- `x[r]` read as a signed XLEN-bit integer (42_memory_access R508). -/
def State.xsigned (s : State) (r : Nat) : Int := (BitVec.ofNat s.cfg.xlen.bits (s.xval r)).toInt

/-- `scalar_N(x[r])`: the low N bits, or the sign extension where N is above XLEN (30_encoding R331). -/
def State.scalar (s : State) (w r : Nat) : BitVec w := BitVec.signExtend w (BitVec.ofNat s.cfg.xlen.bits (s.xval r))

/-! ### The typing state -/

/-- The base-2 logarithm of SEW: 3 for `vsew` 000 up to 6 for 011 (10_state R105). -/
def State.sewLog (s : State) : Nat := s.vsew.toNat + 3

/-- SEW in bits (00_scope R12). -/
def State.sew (s : State) : Nat := 2 ^ s.sewLog

/-- The base-2 logarithm of LMUL: 0, 1, 2, 3 for 000 to 011, and -3, -2, -1 for 101, 110, 111 (10_state R106). The reserved
100 reads as -4, which no legal state has. -/
def State.lmulLog (s : State) : Int := s.vlmul.toInt

/-- `LMUL * VLEN`, for LMUL of at least 1/8: `VLEN` is eight times `VLENB`. -/
def State.groupBits (s : State) : Nat := 2 ^ (s.lmulLog + 3).toNat * s.cfg.vlenb

/-- `VLMAX = LMUL * VLEN / SEW` (00_scope R12, 10_state R107). -/
def State.vlmax (s : State) : Nat := s.groupBits / s.sew

/-- The precondition of every command (10_state R112). -/
def State.typingOk (s : State) : Bool :=
  s.vsew.toNat < 4 && s.vlmul != 4 && !s.vill && s.groupBits % s.sew == 0 && 1 ≤ s.vlmax && s.vl ≤ s.vlmax

/-! ### The shape validator -/

/-- `max(1, EMUL)` for EMUL `2^emul` (40_element_engine R401). -/
def regsPerField (emul : Int) : Nat := 2 ^ emul.toNat

/-- One operand as the validator sees it: EMUL is `2^emul` (41_shape R450, R456). -/
structure Shape where
  reg : Nat
  eew : Nat
  emul : Int
  nf : Nat
  deriving DecidableEq, Repr

/-- `CheckOperand` (41_shape R456): legal EEW (R452), legal EMUL (R453), alignment (R454), `(nf + 1) * EMUL <= 8` and the end
of the register file (R455). `(nf + 1) * EMUL` is compared in eighths. -/
def Shape.ok (o : Shape) : Bool :=
  (o.eew == 8 || o.eew == 16 || o.eew == 32 || o.eew == 64) && o.eew ≤ elen
    && -3 ≤ o.emul && o.emul ≤ 3
    && o.reg % regsPerField o.emul == 0
    && (o.nf + 1) * 2 ^ (o.emul + 3).toNat ≤ 64
    && o.reg + (o.nf + 1) * regsPerField o.emul ≤ numVregs

/-- The base-2 logarithm of EMUL of an operand with EEW `2^eewLog`: `EMUL = (EEW / SEW) * LMUL` (41_shape R457). -/
def State.emulLog (s : State) (eewLog : Nat) : Int := (eewLog : Int) - s.sewLog + s.lmulLog

/-! ### The register file -/

/-- The bytes of the register file, `NUM_VREGS * VLENB` (10_state R100). -/
def State.vrfSize (s : State) : Nat := numVregs * s.cfg.vlenb

/-- The element address translator (40_element_engine R401). -/
def State.elemOffset (s : State) (reg fi ei eew : Nat) (emul : Int) : Nat :=
  (reg + fi * regsPerField emul) * s.cfg.vlenb + ei * (eew / 8)

/-- Note a read of the VRF bytes at `offs` under the bit mask `bits`: a bit with no mark sets the gone-wrong bit (10_state
R121; log 2). -/
def State.noteRead (s : State) (offs : List Nat) (bits : Byte) : State :=
  { s with readUnwritten := s.readUnwritten || offs.any (fun o => Memory.read s.vrfWritten o &&& bits != bits) }

/-- The bytes of the register file at `offs` are set to `v`, and marked as written (10_state R121). -/
def State.putBytes (s : State) (offs : List Nat) (v : Nat) : State :=
  { s with vrf := Memory.writeList s.vrf offs v, vrfWritten := Memory.fill s.vrfWritten 0xFF offs }

/-- The offsets of `n` bytes from `off`. -/
def byteOffsets (off n : Nat) : List Nat := List.range' off n

/-- The value of an element at offset `off`, without the note of the read. -/
def State.elemAt (s : State) (w off : Nat) : BitVec w :=
  BitVec.ofNat w (Memory.readList s.vrf (byteOffsets off (w / 8)))

/-- Read `w` bits at byte offset `off`; an offset outside the file is a model fault (40_element_engine R402, R412). -/
def vreadAt (w off : Nat) (s : State) : Run (BitVec w × State) :=
  if off + w / 8 ≤ s.vrfSize then
    .ok (s.elemAt w off, s.noteRead (byteOffsets off (w / 8)) 0xFF)
  else .error (.fault .vrfOutOfRange)

/-- Write `w` bits at byte offset `off` (40_element_engine R402, R412). -/
def vwriteAt (w off : Nat) (v : BitVec w) (s : State) : Run State :=
  if off + w / 8 ≤ s.vrfSize then .ok (s.putBytes (byteOffsets off (w / 8)) v.toNat)
  else .error (.fault .vrfOutOfRange)

/-- `vread(reg, ei, EEW, fi, EMUL)` (40_element_engine R402). -/
def vreadField (w reg ei fi : Nat) (emul : Int) (s : State) : Run (BitVec w × State) :=
  vreadAt w (s.elemOffset reg fi ei w emul) s

/-- `vwrite(reg, ei, EEW, fi, EMUL, v)` (40_element_engine R402). -/
def vwriteField (w reg ei fi : Nat) (emul : Int) (v : BitVec w) (s : State) : Run State :=
  vwriteAt w (s.elemOffset reg fi ei w emul) v s

/-- `vread(reg, ei, EEW)`: field 0, where EMUL does not matter (40_element_engine R401, R402). -/
def vread (w reg ei : Nat) (s : State) : Run (BitVec w × State) := vreadField w reg ei 0 0 s

/-- `vwrite(reg, ei, EEW, v)` (40_element_engine R402). -/
def vwrite (w reg ei : Nat) (v : BitVec w) (s : State) : Run State := vwriteField w reg ei 0 0 v s

/-! ### The mask controller -/

/-- A byte with bit `k` alone set. -/
def bitMask (k : Nat) : Byte := BitVec.ofNat 8 (2 ^ k)

/-- A byte with its bit `k` set to `b`, every other bit unchanged. -/
def setBit (v : Byte) (k : Nat) (b : Bool) : Byte := if b then v ||| bitMask k else v &&& ~~~ bitMask k

/-- The byte offset of element `ei`'s mask bit in register `reg` (40_element_engine R403). -/
def State.maskOffset (s : State) (reg ei : Nat) : Nat := reg * s.cfg.vlenb + ei / 8

/-- The value of element `ei`'s mask bit in register `reg`, without the note of the read (40_element_engine R403). -/
def State.maskAt (s : State) (reg ei : Nat) : Bool := (Memory.read s.vrf (s.maskOffset reg ei)).getLsbD (ei % 8)

/-- `maskbit(ei)`, the bit of `v0` (40_element_engine R403). -/
def maskbit (ei : Nat) (s : State) : Run (Bool × State) :=
  if s.maskOffset 0 ei < s.vrfSize then
    .ok (s.maskAt 0 ei, s.noteRead [s.maskOffset 0 ei] (bitMask (ei % 8)))
  else .error (.fault .vrfOutOfRange)

/-- Is element `ei` active: unmasked, or its mask bit is 1 (40_element_engine R404)? -/
def activeElement (vm : Bool) (ei : Nat) (s : State) : Run (Bool × State) :=
  if vm then .ok (true, s) else maskbit ei s

/-- Does `mwrite` of element `ei` zero its byte first (40_element_engine R405)? -/
def State.zeroesByte (s : State) (ei : Nat) : Bool :=
  match s.cfg.maskDestPolicy with
  | .firstTouch => !s.touched.contains (ei / 8)
  | .agnostic => !s.touched.contains (ei / 8)
  | .byteStart => ei % 8 == 0

/-- Element `ei`'s byte of `vd` and its marks after `mwrite` of `b` (40_element_engine R405, 10_state R121). -/
def State.putMaskBit (s : State) (vd ei : Nat) (b : Bool) : State :=
  let a := s.maskOffset vd ei
  let old := if s.zeroesByte ei then 0 else Memory.read s.vrf a
  let mark := if s.zeroesByte ei then 0xFF else Memory.read s.vrfWritten a ||| bitMask (ei % 8)
  { s with
    vrf := Memory.write s.vrf a (setBit old (ei % 8) b)
    vrfWritten := Memory.write s.vrfWritten a mark
    touched := if s.touched.contains (ei / 8) then s.touched else s.touched ++ [ei / 8]
    maskBits := s.maskBits ++ [ei] }

/-- `mwrite(vd, ei, b)` (40_element_engine R405, R412). -/
def mwrite (vd ei : Nat) (b : Bool) (s : State) : Run State :=
  if s.maskOffset vd ei < s.vrfSize then .ok (s.putMaskBit vd ei b) else .error (.fault .vrfOutOfRange)

/-- Under `agnostic`, each bit of a touched byte of `vd` that no `mwrite` of the command wrote takes the next free value
(40_element_engine R405; log 6). -/
def State.drawMaskBits (s : State) (vd : Nat) : List Nat → State
  | [] => s
  | ei :: eis =>
    if s.maskBits.contains ei then State.drawMaskBits s vd eis
    else
      State.drawMaskBits
        { s with
          vrf := Memory.write s.vrf (s.maskOffset vd ei)
            (setBit (Memory.read s.vrf (s.maskOffset vd ei)) (ei % 8) (Config.freeMaskBit s.freeDraws))
          freeDraws := s.freeDraws + 1 } vd eis

/-- The end of a mask-producing command: the free bits of `agnostic` (40_element_engine R405). -/
def State.settleMask (s : State) (vd : Nat) : State :=
  match s.cfg.maskDestPolicy with
  | .firstTouch => s
  | .byteStart => s
  | .agnostic => s.drawMaskBits vd (s.touched.flatMap (fun b => List.range' (8 * b) 8))

/-! ### The memory port -/

/-- The answer to the next call: with none left the call is Ok and no agent has acted (log 4). -/
def State.nextAnswer (s : State) : Answer := s.answers.headD ⟨[], none⟩

/-- The collaborator's agents act and its answer is used up (60_exceptions R1240; log 4). -/
def State.takeAnswer (s : State) : State :=
  { s with
    mem := Memory.writeCells s.mem (s.nextAnswer.agents.map (fun c => (c.1 % s.xmod, c.2)))
    answers := s.answers.tail }

/-- The addresses of `n` bytes from `addr`, wrapping (20_memory R203). -/
def State.byteAddrs (s : State) (addr n : Nat) : List Nat := (List.range n).map (fun k : Nat => s.addr (addr + k))

/-- Record a call (20_memory R209). -/
def State.record (s : State) (e : MemEvent) : State := { s with trace := s.trace ++ [e] }

/-- One read or probe call of `n` bytes (00_scope R17, 20_memory R203, R209). -/
def memGet (call : CallKind) (addr n : Nat) (s : State) : Except FaultInfo Nat × State :=
  let s1 := s.takeAnswer
  match s.nextAnswer.fault with
  | none =>
    let v := Memory.readList s1.mem (s1.byteAddrs addr n)
    (.ok v, s1.record ⟨call, addr, n, v, none⟩)
  | some k => (.error ⟨k, addr⟩, s1.record ⟨call, addr, n, 0, some ⟨k, addr⟩⟩)

/-- `MemRead(addr, n)`: a fault is raised at once (00_scope R17). -/
def memRead (addr n : Nat) (s : State) : Run (Nat × State) :=
  match memGet .read addr n s with
  | (.ok v, s) => .ok (v, s)
  | (.error info, s) => .error (.trap (.memFault false info) s)

/-- `MemProbe(addr, n)`: a fault is only reported (00_scope R17). -/
def memProbe (addr n : Nat) (s : State) : Except FaultInfo Nat × State := memGet .probe addr n s

/-- `MemWrite(addr, n, v)`; a faulting write performs no access (00_scope R17, 20_memory R203, R209). -/
def memWrite (addr n v : Nat) (s : State) : Run State :=
  let s1 := s.takeAnswer
  match s.nextAnswer.fault with
  | none =>
    .ok ({ s1 with mem := Memory.writeList s1.mem (s1.byteAddrs addr n) v }.record ⟨.write, addr, n, v, none⟩)
  | some k =>
    .error (.trap (.memFault true ⟨k, addr⟩) (s1.record ⟨.write, addr, n, v, some ⟨k, addr⟩⟩))

/-! ### The loops -/

/-- The cursor is pinned at the element or byte in progress (40_element_engine R406, R407). -/
def State.pin (s : State) (ei : Nat) : State := { s with vstart := ei }

/-- `n` elements from `ei`: pin the cursor, test activity, run the body of an active element (40_element_engine R406). -/
def elementSteps (active : Nat → State → Run (Bool × State)) (body : Nat → State → Run State) :
    Nat → Nat → State → Run State
  | 0, _, s => .ok s
  | n + 1, ei, s => do
    let (a, s) ← active ei (s.pin ei)
    let s ← if a then body ei s else .ok s
    elementSteps active body n (ei + 1) s

/-- `ElementLoop(vl, body)`, up to its final `vstart <- 0; done` (40_element_engine R406). -/
def elementLoop (active : Nat → State → Run (Bool × State)) (body : Nat → State → Run State) (s : State) : Run State :=
  elementSteps active body (s.vl - s.vstart) s.vstart s

/-- The element loop of a reduction, with its accumulator (47_reductions R950). -/
def foldSteps {α : Type} (vm : Bool) (body : Nat → α → State → Run (α × State)) :
    Nat → Nat → α → State → Run (α × State)
  | 0, _, acc, s => .ok (acc, s)
  | n + 1, ei, acc, s => do
    let (a, s) ← activeElement vm ei (s.pin ei)
    let (acc, s) ← if a then body ei acc s else .ok (acc, s)
    foldSteps vm body n (ei + 1) acc s

/-- `n` bytes from `j` of a byte loop (40_element_engine R407). -/
def byteSteps (body : Nat → State → Run State) : Nat → Nat → State → Run State
  | 0, _, s => .ok s
  | n + 1, j, s => do
    let s ← body j (s.pin j)
    byteSteps body n (j + 1) s

/-- `ByteLoop(nbytes, body)`, up to its final `vstart <- 0; done` (40_element_engine R407). -/
def byteLoop (nbytes : Nat) (body : Nat → State → Run State) (s : State) : Run State :=
  byteSteps body (nbytes - s.vstart) s.vstart s

/-! ### Fetch, traps, and the running of a command -/

/-- The word the dispatcher holds at the pc: word `k` of the program is at `launch + 4k` (70_reset R1304). -/
def State.fetch (s : State) : Option InstrWord :=
  let d := s.addr ((s.pc : Int) - s.launch)
  if d % 4 = 0 then s.program[d / 4]? else none

/-- The exception code of a trap (60_exceptions R1206). -/
def Trap.cause : Trap → Nat
  | .illegalInstruction => 2
  | .memFault false ⟨.misaligned, _⟩ => 4
  | .memFault false ⟨.access, _⟩ => 5
  | .memFault true ⟨.misaligned, _⟩ => 6
  | .memFault true ⟨.access, _⟩ => 7
  | .memFault false ⟨.page, _⟩ => 13
  | .memFault true ⟨.page, _⟩ => 15

/-- The recorded value of a trap (60_exceptions R1206; log 11). -/
def State.trapValue (s : State) : Trap → Nat
  | .illegalInstruction => if s.cfg.illegalTvalIsWord then ((s.fetch.map BitVec.toNat).getD 0) else 0
  | .memFault _ info => info.addr

/-- The hidden per-command state is discarded (10_state R116, R117). -/
def State.clearHidden (s : State) : State := { s with touched := [], maskBits := [], ffPending := none }

/-- Taking a trap: the engine's half leaves `vstart`, `vl`, the VRF and memory as they are (60_exceptions R1209); delivery
records the pc of the vector instruction, the code and the value, and continues at the trap vector (60_exceptions R1206,
R1210, R1220; log 10). -/
def State.takeTrap (s : State) (t : Trap) : State :=
  { s.clearHidden with
    result := some (.trap t), xepc := s.pc, xcause := t.cause, xtval := s.trapValue t, pc := s.xtvec }

/-- The trap handler's return to the trapped instruction (60_exceptions R1211): the dispatcher issues it again, from the
`vstart` the trap left. -/
def State.trapReturn (s : State) : State := { s with pc := s.xepc }

/-- Normal completion: `vstart <- 0`, `Done`, and the dispatcher advances the pc by 4 (40_element_engine R408, 60_exceptions
R1220). -/
def State.complete (s : State) : State :=
  { s.clearHidden with vstart := 0, result := some .done, pc := s.addr (s.pc + 4) }

/-- A command's result as the outcome of a step (30_encoding R302). -/
def finish (r : Run State) : Host.Outcome State Fault Refusal :=
  match r with
  | .ok s => .next s.complete
  | .error (.finished s) => .next s.complete
  | .error (.trap t s) => .next (s.takeTrap t)
  | .error (.fault f) => .fault f

/-- One command: the typing precondition, the shape validator, then the body (40_element_engine R400). The touch tracker is
created empty (10_state R116). -/
def runCommand (shapes : State → Bool) (body : State → Run State) (s : State) : Host.Outcome State Fault Refusal :=
  if s.typingOk then
    if shapes s then finish (body s.clearHidden) else .next (s.takeTrap .illegalInstruction)
  else .refused .typingState

end Sys2Proof.Machine
end

