-- ==== Sys2Proof/Machine/Collaborators.lean ====
section
/-! DEFINITION. The collaborators between two commands: the CSR view of the typing state (10_state R113), what each
collaborator's action does (60_exceptions R1240), and the dispatcher's checks before it calls the engine (60_exceptions
R1207). -/

namespace Sys2Proof.Machine

/-- `vxrm`'s encoding (10_state R110). -/
def RoundMode.code : RoundMode → Nat
  | .rnu => 0
  | .rne => 1
  | .rdn => 2
  | .rod => 3

/-- The rounding mode of the low two bits of a number (10_state R110, R113). -/
def RoundMode.ofBits (n : Nat) : RoundMode :=
  if n % 4 = 0 then .rnu else if n % 4 = 1 then .rne else if n % 4 = 2 then .rdn else .rod

/-- `vtype` as software reads it: `vlmul` in bits 2:0, `vsew` in 5:3, `vta` 6, `vma` 7, `vill` at the top (10_state R113). -/
def State.vtype (s : State) : Nat :=
  s.vlmul.toNat + 8 * s.vsew.toNat + 64 * s.vta.toNat + 128 * s.vma.toNat + 2 ^ (s.cfg.xlen.bits - 1) * s.vill.toNat

/-- A CSR read by the scalar CPU; `none` for a number that is no vector CSR (10_state R113). -/
def State.csrRead (s : State) (num : Nat) : Option Nat :=
  if num = 0x008 then some s.vstart
  else if num = 0x009 then some s.vxsat.toNat
  else if num = 0x00A then some s.vxrm.code
  else if num = 0x00F then some (s.vxsat.toNat + 2 * s.vxrm.code)
  else if num = 0xC20 then some s.vl
  else if num = 0xC21 then some s.vtype
  else if num = 0xC22 then some s.cfg.vlenb
  else none

/-- A CSR write by the scalar CPU (10_state R113, 60_exceptions R1231): bits that read as zero are dropped, and a read-only
CSR or a number that is no vector CSR is unchanged (log 14). -/
def State.csrWrite (s : State) (num value : Nat) : State :=
  if num = 0x008 then { s with vstart := value % s.xmod }
  else if num = 0x009 then { s with vxsat := value % 2 == 1 }
  else if num = 0x00A then { s with vxrm := RoundMode.ofBits value }
  else if num = 0x00F then { s with vxsat := value % 2 == 1, vxrm := RoundMode.ofBits (value / 2) }
  else s

/-- Reset of the hardware thread context (70_reset R1300, 10_state R121): the engine's state and the dispatcher's pc take their
reset values; the scalar registers, memory and the trap registers are the scalar CPU's and stay. What becomes
of a launched program the spec leaves open: DESIGN CHOICE, `launch` and `program` stay as they are (log 13). -/
def State.resetEngine (s : State) : State :=
  { s with
    vrf := [], vrfWritten := [], vsew := 0, vlmul := 0, vta := false, vma := false, vill := false, vl := 0, vstart := 0
    vxrm := .rnu, vxsat := false, touched := [], maskBits := [], ffPending := none
    pc := s.cfg.resetVector, vsOn := true, result := none }

/-- A collaborator's action between two commands (60_exceptions R1240; log 13). -/
def State.applyAction (s : State) : CollabAction → State
  | .csrWrite num value => s.csrWrite num value
  | .configure vsew vlmul vta vma vill vl =>
    { s with vsew := vsew, vlmul := vlmul, vta := vta, vma := vma, vill := vill, vl := vl % s.xmod }
  | .writeX r value => { s with x := if r = 0 then s.x else s.x.set r value }
  | .writeVrf off value => if off < s.vrfSize then s.putBytes [off] value.toNat else s
  | .enableVector on => { s with vsOn := on }
  | .setTrapVector addr => { s with xtvec := addr % s.xmod }
  | .trapReturn => s.trapReturn
  | .launch addr words => { s with launch := addr % s.xmod, pc := addr % s.xmod, program := words }
  | .reset => s.resetEngine

/-- The dispatcher's checks before it calls the engine (30_encoding R350, 60_exceptions R1201, R1207): a word that is not
admitted is refused; with the vector unit disabled, or for a reserved encoding, it raises illegal-instruction (log 16). -/
def State.issue (s : State) (w : InstrWord) : Except (Host.Outcome State Fault Refusal) Instr :=
  match decode w with
  | .unadmitted u => .error (.refused (.unadmitted u))
  | .reserved _ => .error (.next (s.takeTrap .illegalInstruction))
  | .instr i => if s.vsOn then .ok i else .error (.next (s.takeTrap .illegalInstruction))

end Sys2Proof.Machine
end

