-- ==== Sys2Proof/Machine/Operands.lean ====
section
/-! DEFINITION. The operand forms (30_encoding R330 to R332), the per-class shape checks (41_shape R458), and the bodies shared
by the instructions of one form. A body's element function `f` gives the result and whether `vxsat` is to be set. -/

namespace Sys2Proof.Machine

/-! ### Forms of `op1` -/

/-- The operand form of `op1`, by the row's spelling (30_encoding R332). -/
inductive Src where
  /-- `.vv`, `.wv`, `.vvm`: an element of `vs1`. -/
  | vec (vs1 : Nat)
  /-- `.vx`, `.wx`, `.vxm`: the scalar `x[rs1]`. -/
  | scalar (rs1 : Nat)
  /-- `.vi`, `.vim` with a signed immediate (30_encoding R330). -/
  | simm (imm5 : Nat)
  /-- `.vi`, `.wi` with an unsigned immediate (30_encoding R330). -/
  | uimm (imm5 : Nat)
  deriving DecidableEq, Repr

/-- `op1` as a `w`-bit string (30_encoding R330, R331, R332). -/
def operand1 (w : Nat) (src : Src) (ei : Nat) (s : State) : Run (BitVec w × State) :=
  match src with
  | .vec vs1 => vread w vs1 ei s
  | .scalar rs1 => .ok (s.scalar w rs1, s)
  | .simm imm5 => .ok (BitVec.signExtend w (BitVec.ofNat 5 imm5), s)
  | .uimm imm5 => .ok (BitVec.ofNat w imm5, s)

/-- An index or offset as an unsigned number: the whole scalar, the immediate, or a `w`-bit `vs1` element (30_encoding R331,
48_permutation R1001). -/
def indexOperand (w : Nat) (src : Src) (ei : Nat) (s : State) : Run (Nat × State) :=
  match src with
  | .vec vs1 => do
    let (a, s) ← vread w vs1 ei s
    .ok (a.toNat, s)
  | .scalar rs1 => .ok (s.xval rs1, s)
  | .simm imm5 => .ok (imm5, s)
  | .uimm imm5 => .ok (imm5, s)

/-- A shift amount: the low `log2 w` bits of `op1` (43_alu R616, 44 R730). -/
def shiftAmount {n : Nat} (w : Nat) (op1 : BitVec n) : Nat := op1.toNat % w

/-! ### Shapes by class -/

/-- An operand at (SEW, LMUL) (41_shape R457). -/
def State.narrowOk (s : State) (reg : Nat) : Bool := Shape.ok ⟨reg, s.sew, s.lmulLog, 0⟩

/-- An operand at (2 SEW, 2 LMUL) (41_shape R457). -/
def State.wideOk (s : State) (reg : Nat) : Bool := Shape.ok ⟨reg, 2 * s.sew, s.lmulLog + 1, 0⟩

/-- An extension source at (SEW / f, LMUL / f), f being `2^fLog` (41_shape R457). -/
def State.fractionOk (s : State) (fLog reg : Nat) : Bool := Shape.ok ⟨reg, s.sew / 2 ^ fLog, s.lmulLog - fLog, 0⟩

/-- A reduction's scalar operand, at (`w`, 1) (41_shape R457). -/
def elementOk (w reg : Nat) : Bool := Shape.ok ⟨reg, w, 0, 0⟩

/-- A memory operand of encoded width `2^eLog`, at (`e`, `(e / SEW) LMUL`, `nf`) (41_shape R457). -/
def State.memoryOk (s : State) (eLog reg nf : Nat) : Bool := Shape.ok ⟨reg, 2 ^ eLog, s.emulLog eLog, nf⟩

/-- An indexed access's data operand, at (SEW, LMUL, `nf`) (41_shape R457). -/
def State.indexedDataOk (s : State) (reg nf : Nat) : Bool := Shape.ok ⟨reg, s.sew, s.lmulLog, nf⟩

/-- The `op1` operand is checked where it is a vector (41_shape R458). -/
def State.srcOk (s : State) : Src → Bool
  | .vec vs1 => s.narrowOk vs1
  | .scalar _ => true
  | .simm _ => true
  | .uimm _ => true

/-- Same-width class, gathers and slides (41_shape R458). -/
def sameWidthShapes (vd vs2 : Nat) (src : Src) (s : State) : Bool := s.narrowOk vd && s.narrowOk vs2 && s.srcOk src

/-- Widening `.vv` and `.vx` (41_shape R458). -/
def wideningShapes (vd vs2 : Nat) (src : Src) (s : State) : Bool := s.wideOk vd && s.narrowOk vs2 && s.srcOk src

/-- Widening `.wv` and `.wx` (41_shape R458). -/
def wideningWideShapes (vd vs2 : Nat) (src : Src) (s : State) : Bool := s.wideOk vd && s.wideOk vs2 && s.srcOk src

/-- Narrowing (41_shape R458). -/
def narrowingShapes (vd vs2 : Nat) (src : Src) (s : State) : Bool := s.narrowOk vd && s.wideOk vs2 && s.srcOk src

/-- Extension (41_shape R458). -/
def extensionShapes (fLog vd vs2 : Nat) (s : State) : Bool := s.narrowOk vd && s.fractionOk fLog vs2

/-- Reductions of accumulator width `aw` (41_shape R458). -/
def reductionShapes (aw vd vs2 vs1 : Nat) (s : State) : Bool := s.narrowOk vs2 && elementOk aw vd && elementOk aw vs1

/-- Compares, `vmadc`, `vmsbc`: the mask destination is not checked (41_shape R458). -/
def maskShapes (vs2 : Nat) (src : Src) (s : State) : Bool := s.narrowOk vs2 && s.srcOk src

/-- Whole-register accesses of `n` registers (41_shape R458). -/
def wholeOk (reg n : Nat) : Bool := reg % n == 0 && reg + n ≤ numVregs

/-! ### Element bodies -/

/-- An element function: the result and whether `vxsat` is set. -/
abbrev ElemFn (w2 w1 wd : Nat) := BitVec w2 → BitVec w1 → BitVec wd × Bool

/-- An element function that never sets `vxsat`. -/
def plain {w2 w1 wd : Nat} (f : BitVec w2 → BitVec w1 → BitVec wd) : ElemFn w2 w1 wd := fun b a => (f b a, false)

/-- `vxsat <- 1` where an element asks for it; the flag is sticky (10_state R111, 45_fixed_point R804). -/
def State.orSat (s : State) (sat : Bool) : State := { s with vxsat := s.vxsat || sat }

/-- Two-operand body: read `op2`, read `op1`, write the result (43_alu R600, 44 R700). -/
def binaryBody (w2 w1 wd vd vs2 : Nat) (src : Src) (f : ElemFn w2 w1 wd) (ei : Nat) (s : State) : Run State := do
  let (b, s) ← vread w2 vs2 ei s
  let (a, s) ← operand1 w1 src ei s
  vwrite wd vd ei (f b a).1 (s.orSat (f b a).2)

/-- Three-operand body: `vd` is a source and the destination (43_alu R624, 44 R721). `f` takes `op1`, `op2`, `acc`. -/
def ternaryBody (w1 wd vd vs2 : Nat) (src : Src) (f : BitVec w1 → BitVec w1 → BitVec wd → BitVec wd) (ei : Nat)
    (s : State) : Run State := do
  let (a, s) ← operand1 w1 src ei s
  let (b, s) ← vread w1 vs2 ei s
  let (acc, s) ← vread wd vd ei s
  vwrite wd vd ei (f a b acc) s

/-- Two-operand body with the carry or borrow of `v0` (43_alu R628, R629). -/
def carryBody (w vd vs2 : Nat) (src : Src) (f : BitVec w → BitVec w → Bool → BitVec w) (ei : Nat) (s : State) :
    Run State := do
  let (b, s) ← vread w vs2 ei s
  let (a, s) ← operand1 w src ei s
  let (c, s) ← maskbit ei s
  vwrite w vd ei (f b a c) s

/-- One-operand body of the extensions (44 R740). -/
def unaryBody (w2 wd vd vs2 : Nat) (f : BitVec w2 → BitVec wd) (ei : Nat) (s : State) : Run State := do
  let (b, s) ← vread w2 vs2 ei s
  vwrite wd vd ei (f b) s

/-- Mask-producing body: one bit per element (49_compare_mask R1101). -/
def compareBody (w vd vs2 : Nat) (src : Src) (p : BitVec w → BitVec w → Bool) (ei : Nat) (s : State) : Run State := do
  let (b, s) ← vread w vs2 ei s
  let (a, s) ← operand1 w src ei s
  mwrite vd ei (p b a) s

/-- Mask-producing body with the carry-in or borrow-in of `v0` (49_compare_mask R1120, R1121). -/
def compareCarryBody (w vd vs2 : Nat) (src : Src) (p : BitVec w → BitVec w → Bool → Bool) (ei : Nat) (s : State) :
    Run State := do
  let (b, s) ← vread w vs2 ei s
  let (a, s) ← operand1 w src ei s
  let (c, s) ← maskbit ei s
  mwrite vd ei (p b a c) s

/-! ### Commands by class -/

/-- Every element is active: the carry and borrow forms (40_element_engine R404). -/
def everyElement (_ei : Nat) (s : State) : Run (Bool × State) := .ok (true, s)

/-- A same-width two-operand command (43_alu R600, R601, 45_fixed_point R805, 46 R900). -/
def sameWidth (vm : Bool) (vd vs2 : Nat) (src : Src) (f : (w : Nat) → ElemFn w w w) (s : State) :
    Host.Outcome State Fault Refusal :=
  runCommand (sameWidthShapes vd vs2 src)
    (elementLoop (activeElement vm) (binaryBody s.sew s.sew s.sew vd vs2 src (f s.sew))) s

/-- A same-width multiply-add command (43_alu R624 to R627). -/
def multiplyAdd (vm : Bool) (vd vs2 : Nat) (src : Src) (f : (w : Nat) → BitVec w → BitVec w → BitVec w → BitVec w)
    (s : State) : Host.Outcome State Fault Refusal :=
  runCommand (sameWidthShapes vd vs2 src)
    (elementLoop (activeElement vm) (ternaryBody s.sew s.sew vd vs2 src (f s.sew))) s

/-- An add or subtract with carry (43_alu R628, R629): every element is active. -/
def withCarry (vd vs2 : Nat) (src : Src) (f : (w : Nat) → BitVec w → BitVec w → Bool → BitVec w) (s : State) :
    Host.Outcome State Fault Refusal :=
  runCommand (sameWidthShapes vd vs2 src) (elementLoop everyElement (carryBody s.sew vd vs2 src (f s.sew))) s

/-- A widening command with two narrow operands (44 R700, R701). -/
def widening (vm : Bool) (vd vs2 : Nat) (src : Src) (f : (w : Nat) → BitVec w → BitVec w → BitVec (2 * w)) (s : State) :
    Host.Outcome State Fault Refusal :=
  runCommand (wideningShapes vd vs2 src)
    (elementLoop (activeElement vm) (binaryBody s.sew s.sew (2 * s.sew) vd vs2 src (plain (f s.sew)))) s

/-- A widening command with a wide `vs2` (44 R700, R701). -/
def wideningWide (vm : Bool) (vd vs2 : Nat) (src : Src) (f : (w : Nat) → BitVec (2 * w) → BitVec w → BitVec (2 * w))
    (s : State) : Host.Outcome State Fault Refusal :=
  runCommand (wideningWideShapes vd vs2 src)
    (elementLoop (activeElement vm) (binaryBody (2 * s.sew) s.sew (2 * s.sew) vd vs2 src (plain (f s.sew)))) s

/-- A widening multiply-add (44 R700, R701, R721). -/
def wideningMultiplyAdd (vm : Bool) (vd vs2 : Nat) (src : Src)
    (f : (w : Nat) → BitVec w → BitVec w → BitVec (2 * w) → BitVec (2 * w)) (s : State) :
    Host.Outcome State Fault Refusal :=
  runCommand (wideningShapes vd vs2 src)
    (elementLoop (activeElement vm) (ternaryBody s.sew (2 * s.sew) vd vs2 src (f s.sew))) s

/-- A narrowing command: wide `vs2`, SEW destination (44 R701, 45_fixed_point R805). -/
def narrowing (vm : Bool) (vd vs2 : Nat) (src : Src) (f : (w : Nat) → ElemFn (2 * w) w w) (s : State) :
    Host.Outcome State Fault Refusal :=
  runCommand (narrowingShapes vd vs2 src)
    (elementLoop (activeElement vm) (binaryBody (2 * s.sew) s.sew s.sew vd vs2 src (f s.sew))) s

/-- An extension by the factor `2^fLog` (44 R740 to R745). -/
def extension (vm : Bool) (vd vs2 fLog : Nat) (f : (w2 w : Nat) → BitVec w2 → BitVec w) (s : State) :
    Host.Outcome State Fault Refusal :=
  runCommand (extensionShapes fLog vd vs2)
    (elementLoop (activeElement vm) (unaryBody (s.sew / 2 ^ fLog) s.sew vd vs2 (f (s.sew / 2 ^ fLog) s.sew))) s

/-- The body of a mask-producing command, with the free bits of `agnostic` at its end (49_compare_mask R1101, 40 R405). -/
def maskLoop (active : Nat → State → Run (Bool × State)) (vd : Nat) (body : Nat → State → Run State) (s : State) :
    Run State := do
  let s ← elementLoop active body s
  .ok (s.settleMask vd)

/-- A compare (49_compare_mask R1100, R1101). -/
def compare (vm : Bool) (vd vs2 : Nat) (src : Src) (p : (w : Nat) → BitVec w → BitVec w → Bool) (s : State) :
    Host.Outcome State Fault Refusal :=
  runCommand (maskShapes vs2 src) (maskLoop (activeElement vm) vd (compareBody s.sew vd vs2 src (p s.sew))) s

/-- A carry-out or borrow-out without a carry-in (49_compare_mask R1120, R1121, `vm = 1`): every element is active. -/
def carryOut (vd vs2 : Nat) (src : Src) (p : (w : Nat) → BitVec w → BitVec w → Bool → Bool) (s : State) :
    Host.Outcome State Fault Refusal :=
  runCommand (maskShapes vs2 src)
    (maskLoop everyElement vd (compareBody s.sew vd vs2 src (fun b a => p s.sew b a false))) s

/-- A carry-out or borrow-out with the carry-in of `v0` (49_compare_mask R1120, R1121, `vm = 0`): every element is active. -/
def carryOutIn (vd vs2 : Nat) (src : Src) (p : (w : Nat) → BitVec w → BitVec w → Bool → Bool) (s : State) :
    Host.Outcome State Fault Refusal :=
  runCommand (maskShapes vs2 src) (maskLoop everyElement vd (compareCarryBody s.sew vd vs2 src (p s.sew))) s

end Sys2Proof.Machine
end

