-- ==== Sys2Proof/Machine/Flags.lean ====
section
/-! DEFINITION. The flag-like computations: carry-out and borrow-out (49_compare_mask R1120, R1121), the rounding function
(45_fixed_point R800) and the clamps that set `vxsat` (45_fixed_point R804). `vxsat` is the engine's only flag (10_state R115). -/

namespace Sys2Proof.Machine

/-- The carry-out of `op2 + op1 + c` (49_compare_mask R1120). -/
def carryOf (w : Nat) (op2 op1 : BitVec w) (c : Bool) : Bool := 2 ^ w ≤ op2.toNat + op1.toNat + c.toNat

/-- The borrow-out of `op2 - op1 - c` (49_compare_mask R1121). -/
def borrowOf (w : Nat) (op2 op1 : BitVec w) (c : Bool) : Bool := (op2.toNat : Int) - op1.toNat - c.toNat < 0

/-- The increment bit of the rounding function, for a shift of `d >= 1` (45_fixed_point R800). -/
def roundBit (v : Int) (d : Nat) : RoundMode → Bool
  | .rnu => intBit v (d - 1)
  | .rne => intBit v (d - 1) && (intBit v d || v % 2 ^ (d - 1) != 0)
  | .rdn => false
  | .rod => !intBit v d && v % 2 ^ d != 0

/-- `roundoff(v, d, rm)` (45_fixed_point R800). -/
def roundoff (v : Int) (d : Nat) (rm : RoundMode) : Int :=
  if d = 0 then v else v / 2 ^ d + (if roundBit v d rm then 1 else 0)

/-- Clamp to the unsigned range of `w` bits; the flag says that it clamped (45_fixed_point R804). -/
def clampUnsigned (w : Nat) (z : Int) : BitVec w × Bool :=
  if z > 2 ^ w - 1 then (trunc w (2 ^ w - 1), true)
  else if z < 0 then (trunc w 0, true)
  else (trunc w z, false)

/-- Clamp to the signed range of `w` bits; the flag says that it clamped (45_fixed_point R804). -/
def clampSigned (w : Nat) (z : Int) : BitVec w × Bool :=
  if z > 2 ^ (w - 1) - 1 then (trunc w (2 ^ (w - 1) - 1), true)
  else if z < -2 ^ (w - 1) then (trunc w (-2 ^ (w - 1)), true)
  else (trunc w z, false)

end Sys2Proof.Machine
end

