-- ==== Sys2Proof/Machine/CompareMask.lean ====
section
/-! DEFINITION. Compare-to-mask and carry-out operations (49_compare_mask). A predicate takes `op2`, then `op1`. -/

namespace Sys2Proof.Machine

/-- The predicate of `vmseq` (49_compare_mask R1110). -/
def seqTest (w : Nat) (op2 op1 : BitVec w) : Bool :=
  op2 == op1

/-- The predicate of `vmsne` (49_compare_mask R1111). -/
def sneTest (w : Nat) (op2 op1 : BitVec w) : Bool :=
  op2 != op1

/-- The predicate of `vmsltu` (49_compare_mask R1112). -/
def sltuTest (w : Nat) (op2 op1 : BitVec w) : Bool :=
  op2.toNat < op1.toNat

/-- The predicate of `vmslt` (49_compare_mask R1113). -/
def sltTest (w : Nat) (op2 op1 : BitVec w) : Bool :=
  op2.toInt < op1.toInt

/-- The predicate of `vmsleu` (49_compare_mask R1114). -/
def sleuTest (w : Nat) (op2 op1 : BitVec w) : Bool :=
  op2.toNat ≤ op1.toNat

/-- The predicate of `vmsle` (49_compare_mask R1115). -/
def sleTest (w : Nat) (op2 op1 : BitVec w) : Bool :=
  op2.toInt ≤ op1.toInt

/-- The predicate of `vmsgtu` (49_compare_mask R1116). -/
def sgtuTest (w : Nat) (op2 op1 : BitVec w) : Bool :=
  op2.toNat > op1.toNat

/-- The predicate of `vmsgt` (49_compare_mask R1117). -/
def sgtTest (w : Nat) (op2 op1 : BitVec w) : Bool :=
  op2.toInt > op1.toInt

/-- `vmseq.vv` (49_compare_mask R1110). -/
def execVmseqVv (vm : Bool) (vd vs2 vs1 : Nat) (s : State) : Host.Outcome State Fault Refusal :=
  compare vm vd vs2 (.vec vs1) seqTest s

/-- `vmseq.vx` (49_compare_mask R1110). -/
def execVmseqVx (vm : Bool) (vd vs2 rs1 : Nat) (s : State) : Host.Outcome State Fault Refusal :=
  compare vm vd vs2 (.scalar rs1) seqTest s

/-- `vmseq.vi` (49_compare_mask R1110). -/
def execVmseqVi (vm : Bool) (vd vs2 imm5 : Nat) (s : State) : Host.Outcome State Fault Refusal :=
  compare vm vd vs2 (.simm imm5) seqTest s

/-- `vmsne.vv` (49_compare_mask R1111). -/
def execVmsneVv (vm : Bool) (vd vs2 vs1 : Nat) (s : State) : Host.Outcome State Fault Refusal :=
  compare vm vd vs2 (.vec vs1) sneTest s

/-- `vmsne.vx` (49_compare_mask R1111). -/
def execVmsneVx (vm : Bool) (vd vs2 rs1 : Nat) (s : State) : Host.Outcome State Fault Refusal :=
  compare vm vd vs2 (.scalar rs1) sneTest s

/-- `vmsne.vi` (49_compare_mask R1111). -/
def execVmsneVi (vm : Bool) (vd vs2 imm5 : Nat) (s : State) : Host.Outcome State Fault Refusal :=
  compare vm vd vs2 (.simm imm5) sneTest s

/-- `vmsltu.vv` (49_compare_mask R1112). -/
def execVmsltuVv (vm : Bool) (vd vs2 vs1 : Nat) (s : State) : Host.Outcome State Fault Refusal :=
  compare vm vd vs2 (.vec vs1) sltuTest s

/-- `vmsltu.vx` (49_compare_mask R1112). -/
def execVmsltuVx (vm : Bool) (vd vs2 rs1 : Nat) (s : State) : Host.Outcome State Fault Refusal :=
  compare vm vd vs2 (.scalar rs1) sltuTest s

/-- `vmslt.vv` (49_compare_mask R1113). -/
def execVmsltVv (vm : Bool) (vd vs2 vs1 : Nat) (s : State) : Host.Outcome State Fault Refusal :=
  compare vm vd vs2 (.vec vs1) sltTest s

/-- `vmslt.vx` (49_compare_mask R1113). -/
def execVmsltVx (vm : Bool) (vd vs2 rs1 : Nat) (s : State) : Host.Outcome State Fault Refusal :=
  compare vm vd vs2 (.scalar rs1) sltTest s

/-- `vmsleu.vv` (49_compare_mask R1114). -/
def execVmsleuVv (vm : Bool) (vd vs2 vs1 : Nat) (s : State) : Host.Outcome State Fault Refusal :=
  compare vm vd vs2 (.vec vs1) sleuTest s

/-- `vmsleu.vx` (49_compare_mask R1114). -/
def execVmsleuVx (vm : Bool) (vd vs2 rs1 : Nat) (s : State) : Host.Outcome State Fault Refusal :=
  compare vm vd vs2 (.scalar rs1) sleuTest s

/-- `vmsleu.vi` (49_compare_mask R1114). -/
def execVmsleuVi (vm : Bool) (vd vs2 imm5 : Nat) (s : State) : Host.Outcome State Fault Refusal :=
  compare vm vd vs2 (.simm imm5) sleuTest s

/-- `vmsle.vv` (49_compare_mask R1115). -/
def execVmsleVv (vm : Bool) (vd vs2 vs1 : Nat) (s : State) : Host.Outcome State Fault Refusal :=
  compare vm vd vs2 (.vec vs1) sleTest s

/-- `vmsle.vx` (49_compare_mask R1115). -/
def execVmsleVx (vm : Bool) (vd vs2 rs1 : Nat) (s : State) : Host.Outcome State Fault Refusal :=
  compare vm vd vs2 (.scalar rs1) sleTest s

/-- `vmsle.vi` (49_compare_mask R1115). -/
def execVmsleVi (vm : Bool) (vd vs2 imm5 : Nat) (s : State) : Host.Outcome State Fault Refusal :=
  compare vm vd vs2 (.simm imm5) sleTest s

/-- `vmsgtu.vx` (49_compare_mask R1116). -/
def execVmsgtuVx (vm : Bool) (vd vs2 rs1 : Nat) (s : State) : Host.Outcome State Fault Refusal :=
  compare vm vd vs2 (.scalar rs1) sgtuTest s

/-- `vmsgtu.vi` (49_compare_mask R1116). -/
def execVmsgtuVi (vm : Bool) (vd vs2 imm5 : Nat) (s : State) : Host.Outcome State Fault Refusal :=
  compare vm vd vs2 (.simm imm5) sgtuTest s

/-- `vmsgt.vx` (49_compare_mask R1117). -/
def execVmsgtVx (vm : Bool) (vd vs2 rs1 : Nat) (s : State) : Host.Outcome State Fault Refusal :=
  compare vm vd vs2 (.scalar rs1) sgtTest s

/-- `vmsgt.vi` (49_compare_mask R1117). -/
def execVmsgtVi (vm : Bool) (vd vs2 imm5 : Nat) (s : State) : Host.Outcome State Fault Refusal :=
  compare vm vd vs2 (.simm imm5) sgtTest s

/-- `vmadc.vvm` (49_compare_mask R1120). -/
def execVmadcVvm (vd vs2 vs1 : Nat) (s : State) : Host.Outcome State Fault Refusal :=
  carryOutIn vd vs2 (.vec vs1) carryOf s

/-- `vmadc.vxm` (49_compare_mask R1120). -/
def execVmadcVxm (vd vs2 rs1 : Nat) (s : State) : Host.Outcome State Fault Refusal :=
  carryOutIn vd vs2 (.scalar rs1) carryOf s

/-- `vmadc.vim` (49_compare_mask R1120). -/
def execVmadcVim (vd vs2 imm5 : Nat) (s : State) : Host.Outcome State Fault Refusal :=
  carryOutIn vd vs2 (.simm imm5) carryOf s

/-- `vmadc.vv` (49_compare_mask R1120). -/
def execVmadcVv (vd vs2 vs1 : Nat) (s : State) : Host.Outcome State Fault Refusal :=
  carryOut vd vs2 (.vec vs1) carryOf s

/-- `vmadc.vx` (49_compare_mask R1120). -/
def execVmadcVx (vd vs2 rs1 : Nat) (s : State) : Host.Outcome State Fault Refusal :=
  carryOut vd vs2 (.scalar rs1) carryOf s

/-- `vmadc.vi` (49_compare_mask R1120). -/
def execVmadcVi (vd vs2 imm5 : Nat) (s : State) : Host.Outcome State Fault Refusal :=
  carryOut vd vs2 (.simm imm5) carryOf s

/-- `vmsbc.vvm` (49_compare_mask R1121). -/
def execVmsbcVvm (vd vs2 vs1 : Nat) (s : State) : Host.Outcome State Fault Refusal :=
  carryOutIn vd vs2 (.vec vs1) borrowOf s

/-- `vmsbc.vxm` (49_compare_mask R1121). -/
def execVmsbcVxm (vd vs2 rs1 : Nat) (s : State) : Host.Outcome State Fault Refusal :=
  carryOutIn vd vs2 (.scalar rs1) borrowOf s

/-- `vmsbc.vv` (49_compare_mask R1121). -/
def execVmsbcVv (vd vs2 vs1 : Nat) (s : State) : Host.Outcome State Fault Refusal :=
  carryOut vd vs2 (.vec vs1) borrowOf s

/-- `vmsbc.vx` (49_compare_mask R1121). -/
def execVmsbcVx (vd vs2 rs1 : Nat) (s : State) : Host.Outcome State Fault Refusal :=
  carryOut vd vs2 (.scalar rs1) borrowOf s

end Sys2Proof.Machine
end

