-- ==== Sys2Proof/Machine/FixedPoint.lean ====
section
/-! DEFINITION. Fixed-point operations (45_fixed_point). The rounding mode is `vxrm` as the command starts (R802). -/

namespace Sys2Proof.Machine

/-- `vsaddu` on one element (45_fixed_point R810). -/
def sadduElem (w : Nat) (op2 op1 : BitVec w) : BitVec w × Bool :=
  clampUnsigned w ((op2.toNat : Int) + op1.toNat)

/-- `vsadd` on one element (45_fixed_point R811). -/
def saddElem (w : Nat) (op2 op1 : BitVec w) : BitVec w × Bool :=
  clampSigned w (op2.toInt + op1.toInt)

/-- `vssubu` on one element (45_fixed_point R812). -/
def ssubuElem (w : Nat) (op2 op1 : BitVec w) : BitVec w × Bool :=
  clampUnsigned w ((op2.toNat : Int) - op1.toNat)

/-- `vssub` on one element (45_fixed_point R813). -/
def ssubElem (w : Nat) (op2 op1 : BitVec w) : BitVec w × Bool :=
  clampSigned w (op2.toInt - op1.toInt)

/-- `vaaddu` on one element (45_fixed_point R820). -/
def aadduElem (rm : RoundMode) (w : Nat) (op2 op1 : BitVec w) : BitVec w :=
  trunc w (roundoff ((op2.toNat : Int) + op1.toNat) 1 rm)

/-- `vaadd` on one element (45_fixed_point R821). -/
def aaddElem (rm : RoundMode) (w : Nat) (op2 op1 : BitVec w) : BitVec w :=
  trunc w (roundoff (op2.toInt + op1.toInt) 1 rm)

/-- `vasubu` on one element (45_fixed_point R822). -/
def asubuElem (rm : RoundMode) (w : Nat) (op2 op1 : BitVec w) : BitVec w :=
  trunc w (roundoff ((op2.toNat : Int) - op1.toNat) 1 rm)

/-- `vasub` on one element (45_fixed_point R823). -/
def asubElem (rm : RoundMode) (w : Nat) (op2 op1 : BitVec w) : BitVec w :=
  trunc w (roundoff (op2.toInt - op1.toInt) 1 rm)

/-- `vssrl` on one element (45_fixed_point R840). -/
def ssrlElem (rm : RoundMode) (w : Nat) (op2 op1 : BitVec w) : BitVec w :=
  trunc w (roundoff op2.toNat (shiftAmount w op1) rm)

/-- `vssra` on one element (45_fixed_point R841). -/
def ssraElem (rm : RoundMode) (w : Nat) (op2 op1 : BitVec w) : BitVec w :=
  trunc w (roundoff op2.toInt (shiftAmount w op1) rm)

/-- `vsmul` on one element (45_fixed_point R830). -/
def smulElem (rm : RoundMode) (w : Nat) (op2 op1 : BitVec w) : BitVec w × Bool :=
  clampSigned w (roundoff (op2.toInt * op1.toInt) (w - 1) rm)

/-- `vnclipu` on one element; `sat` is `NCLIP_SATURATES` (45_fixed_point R850). -/
def nclipuElem (sat : Bool) (rm : RoundMode) (w : Nat) (op2 : BitVec (2 * w)) (op1 : BitVec w) : BitVec w × Bool :=
  let z := roundoff op2.toNat (shiftAmount (2 * w) op1) rm
  if sat then clampUnsigned w z else (trunc w z, false)

/-- `vnclip` on one element; `sat` is `NCLIP_SATURATES` (45_fixed_point R851). -/
def nclipElem (sat : Bool) (rm : RoundMode) (w : Nat) (op2 : BitVec (2 * w)) (op1 : BitVec w) : BitVec w × Bool :=
  let z := roundoff op2.toInt (shiftAmount (2 * w) op1) rm
  if sat then clampSigned w z else (trunc w z, false)

/-- `vsaddu.vv` (45_fixed_point R810). -/
def execVsadduVv (vm : Bool) (vd vs2 vs1 : Nat) (s : State) : Host.Outcome State Fault Refusal :=
  sameWidth vm vd vs2 (.vec vs1) sadduElem s

/-- `vsaddu.vx` (45_fixed_point R810). -/
def execVsadduVx (vm : Bool) (vd vs2 rs1 : Nat) (s : State) : Host.Outcome State Fault Refusal :=
  sameWidth vm vd vs2 (.scalar rs1) sadduElem s

/-- `vsaddu.vi` (45_fixed_point R810). -/
def execVsadduVi (vm : Bool) (vd vs2 imm5 : Nat) (s : State) : Host.Outcome State Fault Refusal :=
  sameWidth vm vd vs2 (.simm imm5) sadduElem s

/-- `vsadd.vv` (45_fixed_point R811). -/
def execVsaddVv (vm : Bool) (vd vs2 vs1 : Nat) (s : State) : Host.Outcome State Fault Refusal :=
  sameWidth vm vd vs2 (.vec vs1) saddElem s

/-- `vsadd.vx` (45_fixed_point R811). -/
def execVsaddVx (vm : Bool) (vd vs2 rs1 : Nat) (s : State) : Host.Outcome State Fault Refusal :=
  sameWidth vm vd vs2 (.scalar rs1) saddElem s

/-- `vsadd.vi` (45_fixed_point R811). -/
def execVsaddVi (vm : Bool) (vd vs2 imm5 : Nat) (s : State) : Host.Outcome State Fault Refusal :=
  sameWidth vm vd vs2 (.simm imm5) saddElem s

/-- `vssubu.vv` (45_fixed_point R812). -/
def execVssubuVv (vm : Bool) (vd vs2 vs1 : Nat) (s : State) : Host.Outcome State Fault Refusal :=
  sameWidth vm vd vs2 (.vec vs1) ssubuElem s

/-- `vssubu.vx` (45_fixed_point R812). -/
def execVssubuVx (vm : Bool) (vd vs2 rs1 : Nat) (s : State) : Host.Outcome State Fault Refusal :=
  sameWidth vm vd vs2 (.scalar rs1) ssubuElem s

/-- `vssub.vv` (45_fixed_point R813). -/
def execVssubVv (vm : Bool) (vd vs2 vs1 : Nat) (s : State) : Host.Outcome State Fault Refusal :=
  sameWidth vm vd vs2 (.vec vs1) ssubElem s

/-- `vssub.vx` (45_fixed_point R813). -/
def execVssubVx (vm : Bool) (vd vs2 rs1 : Nat) (s : State) : Host.Outcome State Fault Refusal :=
  sameWidth vm vd vs2 (.scalar rs1) ssubElem s

/-- `vaaddu.vv` (45_fixed_point R820). -/
def execVaadduVv (vm : Bool) (vd vs2 vs1 : Nat) (s : State) : Host.Outcome State Fault Refusal :=
  sameWidth vm vd vs2 (.vec vs1) (fun w => plain (aadduElem s.vxrm w)) s

/-- `vaaddu.vx` (45_fixed_point R820). -/
def execVaadduVx (vm : Bool) (vd vs2 rs1 : Nat) (s : State) : Host.Outcome State Fault Refusal :=
  sameWidth vm vd vs2 (.scalar rs1) (fun w => plain (aadduElem s.vxrm w)) s

/-- `vaadd.vv` (45_fixed_point R821). -/
def execVaaddVv (vm : Bool) (vd vs2 vs1 : Nat) (s : State) : Host.Outcome State Fault Refusal :=
  sameWidth vm vd vs2 (.vec vs1) (fun w => plain (aaddElem s.vxrm w)) s

/-- `vaadd.vx` (45_fixed_point R821). -/
def execVaaddVx (vm : Bool) (vd vs2 rs1 : Nat) (s : State) : Host.Outcome State Fault Refusal :=
  sameWidth vm vd vs2 (.scalar rs1) (fun w => plain (aaddElem s.vxrm w)) s

/-- `vasubu.vv` (45_fixed_point R822). -/
def execVasubuVv (vm : Bool) (vd vs2 vs1 : Nat) (s : State) : Host.Outcome State Fault Refusal :=
  sameWidth vm vd vs2 (.vec vs1) (fun w => plain (asubuElem s.vxrm w)) s

/-- `vasubu.vx` (45_fixed_point R822). -/
def execVasubuVx (vm : Bool) (vd vs2 rs1 : Nat) (s : State) : Host.Outcome State Fault Refusal :=
  sameWidth vm vd vs2 (.scalar rs1) (fun w => plain (asubuElem s.vxrm w)) s

/-- `vasub.vv` (45_fixed_point R823). -/
def execVasubVv (vm : Bool) (vd vs2 vs1 : Nat) (s : State) : Host.Outcome State Fault Refusal :=
  sameWidth vm vd vs2 (.vec vs1) (fun w => plain (asubElem s.vxrm w)) s

/-- `vasub.vx` (45_fixed_point R823). -/
def execVasubVx (vm : Bool) (vd vs2 rs1 : Nat) (s : State) : Host.Outcome State Fault Refusal :=
  sameWidth vm vd vs2 (.scalar rs1) (fun w => plain (asubElem s.vxrm w)) s

/-- `vssrl.vv` (45_fixed_point R840). -/
def execVssrlVv (vm : Bool) (vd vs2 vs1 : Nat) (s : State) : Host.Outcome State Fault Refusal :=
  sameWidth vm vd vs2 (.vec vs1) (fun w => plain (ssrlElem s.vxrm w)) s

/-- `vssrl.vx` (45_fixed_point R840). -/
def execVssrlVx (vm : Bool) (vd vs2 rs1 : Nat) (s : State) : Host.Outcome State Fault Refusal :=
  sameWidth vm vd vs2 (.scalar rs1) (fun w => plain (ssrlElem s.vxrm w)) s

/-- `vssrl.vi` (45_fixed_point R840). -/
def execVssrlVi (vm : Bool) (vd vs2 imm5 : Nat) (s : State) : Host.Outcome State Fault Refusal :=
  sameWidth vm vd vs2 (.uimm imm5) (fun w => plain (ssrlElem s.vxrm w)) s

/-- `vssra.vv` (45_fixed_point R841). -/
def execVssraVv (vm : Bool) (vd vs2 vs1 : Nat) (s : State) : Host.Outcome State Fault Refusal :=
  sameWidth vm vd vs2 (.vec vs1) (fun w => plain (ssraElem s.vxrm w)) s

/-- `vssra.vx` (45_fixed_point R841). -/
def execVssraVx (vm : Bool) (vd vs2 rs1 : Nat) (s : State) : Host.Outcome State Fault Refusal :=
  sameWidth vm vd vs2 (.scalar rs1) (fun w => plain (ssraElem s.vxrm w)) s

/-- `vssra.vi` (45_fixed_point R841). -/
def execVssraVi (vm : Bool) (vd vs2 imm5 : Nat) (s : State) : Host.Outcome State Fault Refusal :=
  sameWidth vm vd vs2 (.uimm imm5) (fun w => plain (ssraElem s.vxrm w)) s

/-- `vsmul.vv` (45_fixed_point R830). -/
def execVsmulVv (vm : Bool) (vd vs2 vs1 : Nat) (s : State) : Host.Outcome State Fault Refusal :=
  sameWidth vm vd vs2 (.vec vs1) (smulElem s.vxrm) s

/-- `vsmul.vx` (45_fixed_point R830). -/
def execVsmulVx (vm : Bool) (vd vs2 rs1 : Nat) (s : State) : Host.Outcome State Fault Refusal :=
  sameWidth vm vd vs2 (.scalar rs1) (smulElem s.vxrm) s

/-- `vnclipu.wv` (45_fixed_point R850). -/
def execVnclipuWv (vm : Bool) (vd vs2 vs1 : Nat) (s : State) : Host.Outcome State Fault Refusal :=
  narrowing vm vd vs2 (.vec vs1) (nclipuElem s.cfg.nclipSaturates s.vxrm) s

/-- `vnclipu.wx` (45_fixed_point R850). -/
def execVnclipuWx (vm : Bool) (vd vs2 rs1 : Nat) (s : State) : Host.Outcome State Fault Refusal :=
  narrowing vm vd vs2 (.scalar rs1) (nclipuElem s.cfg.nclipSaturates s.vxrm) s

/-- `vnclipu.wi` (45_fixed_point R850). -/
def execVnclipuWi (vm : Bool) (vd vs2 imm5 : Nat) (s : State) : Host.Outcome State Fault Refusal :=
  narrowing vm vd vs2 (.uimm imm5) (nclipuElem s.cfg.nclipSaturates s.vxrm) s

/-- `vnclip.wv` (45_fixed_point R851). -/
def execVnclipWv (vm : Bool) (vd vs2 vs1 : Nat) (s : State) : Host.Outcome State Fault Refusal :=
  narrowing vm vd vs2 (.vec vs1) (nclipElem s.cfg.nclipSaturates s.vxrm) s

/-- `vnclip.wx` (45_fixed_point R851). -/
def execVnclipWx (vm : Bool) (vd vs2 rs1 : Nat) (s : State) : Host.Outcome State Fault Refusal :=
  narrowing vm vd vs2 (.scalar rs1) (nclipElem s.cfg.nclipSaturates s.vxrm) s

/-- `vnclip.wi` (45_fixed_point R851). -/
def execVnclipWi (vm : Bool) (vd vs2 imm5 : Nat) (s : State) : Host.Outcome State Fault Refusal :=
  narrowing vm vd vs2 (.uimm imm5) (nclipElem s.cfg.nclipSaturates s.vxrm) s

end Sys2Proof.Machine
end

