-- ==== Sys2Proof/Machine/MemoryAccess.lean ====
section
/-! DEFINITION. The memory access unit (42_memory_access). -/

namespace Sys2Proof.Machine

/-- The address of field `fi` of element `ei` (42_memory_access R502). -/
abbrev FieldAddr := Nat → Int

/-- Fields `fi` to `fi + n - 1` of a load: each is written as soon as it is read (42_memory_access R504, R505). -/
def loadFields (w vd ei : Nat) (emul : Int) (addr : FieldAddr) : Nat → Nat → State → Run State
  | 0, _, s => .ok s
  | n + 1, fi, s => do
    let (v, s) ← memRead (s.addr (addr fi)) (w / 8) s
    let s ← vwriteField w vd ei fi emul (BitVec.ofNat w v) s
    loadFields w vd ei emul addr n (fi + 1) s

/-- Fields `fi` to `fi + n - 1` of a store (42_memory_access R504, R505). -/
def storeFields (w vs3 ei : Nat) (emul : Int) (addr : FieldAddr) : Nat → Nat → State → Run State
  | 0, _, s => .ok s
  | n + 1, fi, s => do
    let (v, s) ← vreadField w vs3 ei fi emul s
    let s ← memWrite (s.addr (addr fi)) (w / 8) v.toNat s
    storeFields w vs3 ei emul addr n (fi + 1) s

/-- Probe fields `fi` to `fi + n - 1`; the first fault is held pending and ends the probing (42_memory_access R520, 10_state
R117). -/
def probeFields (w : Nat) (addr : FieldAddr) : Nat → Nat → State → List Nat × State
  | 0, _, s => ([], s)
  | n + 1, fi, s =>
    match memProbe (s.addr (addr fi)) (w / 8) s with
    | (.error info, s) => ([], { s with ffPending := some info })
    | (.ok v, s) =>
      let (vs, s) := probeFields w addr n (fi + 1) s
      (v :: vs, s)

/-- Write the probed values to fields `fi` on (42_memory_access R520). -/
def writeFields (w vd ei : Nat) (emul : Int) : Nat → List Nat → State → Run State
  | _, [], s => .ok s
  | fi, v :: vs, s => do
    let s ← vwriteField w vd ei fi emul (BitVec.ofNat w v) s
    writeFields w vd ei emul (fi + 1) vs s

/-- Unit-stride address: `base + (ei * NFIELDS + fi) * eb` (42_memory_access R502, R510). -/
def unitAddr (base nf eb ei : Nat) : FieldAddr := fun fi => (base : Int) + (ei * (nf + 1) + fi) * eb

/-- Strided address: `base + ei * stride + fi * eb` (42_memory_access R502, R512). -/
def stridedAddr (base : Nat) (stride : Int) (eb ei : Nat) : FieldAddr := fun fi => (base : Int) + ei * stride + fi * eb

/-- Indexed address: `base + index + fi * sb` (42_memory_access R502, R514). -/
def indexedAddr (base idx sb : Nat) : FieldAddr := fun fi => (base : Int) + idx + fi * sb

/-- A unit-stride load of width `2^eLog` (42_memory_access R510). -/
def unitLoad (eLog : Nat) (vm : Bool) (nf vd rs1 : Nat) (s : State) : Host.Outcome State Fault Refusal :=
  runCommand (fun s => s.memoryOk eLog vd nf)
    (elementLoop (activeElement vm) (fun ei s =>
      loadFields (2 ^ eLog) vd ei (s.emulLog eLog) (unitAddr (s.xval rs1) nf (2 ^ eLog / 8) ei) (nf + 1) 0 s)) s

/-- A unit-stride store of width `2^eLog` (42_memory_access R511). -/
def unitStore (eLog : Nat) (vm : Bool) (nf vs3 rs1 : Nat) (s : State) : Host.Outcome State Fault Refusal :=
  runCommand (fun s => s.memoryOk eLog vs3 nf)
    (elementLoop (activeElement vm) (fun ei s =>
      storeFields (2 ^ eLog) vs3 ei (s.emulLog eLog) (unitAddr (s.xval rs1) nf (2 ^ eLog / 8) ei) (nf + 1) 0 s)) s

/-- A strided load of width `2^eLog` (42_memory_access R512). -/
def stridedLoad (eLog : Nat) (vm : Bool) (nf vd rs1 rs2 : Nat) (s : State) : Host.Outcome State Fault Refusal :=
  runCommand (fun s => s.memoryOk eLog vd nf)
    (elementLoop (activeElement vm) (fun ei s =>
      loadFields (2 ^ eLog) vd ei (s.emulLog eLog) (stridedAddr (s.xval rs1) (s.xsigned rs2) (2 ^ eLog / 8) ei)
        (nf + 1) 0 s)) s

/-- A strided store of width `2^eLog` (42_memory_access R513). -/
def stridedStore (eLog : Nat) (vm : Bool) (nf vs3 rs1 rs2 : Nat) (s : State) : Host.Outcome State Fault Refusal :=
  runCommand (fun s => s.memoryOk eLog vs3 nf)
    (elementLoop (activeElement vm) (fun ei s =>
      storeFields (2 ^ eLog) vs3 ei (s.emulLog eLog) (stridedAddr (s.xval rs1) (s.xsigned rs2) (2 ^ eLog / 8) ei)
        (nf + 1) 0 s)) s

/-- The shapes of an indexed access: data at (SEW, LMUL, `nf`), index at (`e`, `(e / SEW) LMUL`) (41_shape R458, 42 R514). -/
def indexedShapes (eLog data vs2 nf : Nat) (s : State) : Bool := s.indexedDataOk data nf && s.memoryOk eLog vs2 0

/-- An indexed load with index width `2^eLog`; the data is SEW wide (42_memory_access R514). -/
def indexedLoad (eLog : Nat) (vm : Bool) (nf vd rs1 vs2 : Nat) (s : State) : Host.Outcome State Fault Refusal :=
  runCommand (indexedShapes eLog vd vs2 nf)
    (elementLoop (activeElement vm) (fun ei s => do
      let (idx, s) ← vread (2 ^ eLog) vs2 ei s
      loadFields s.sew vd ei s.lmulLog (indexedAddr (s.xval rs1) idx.toNat (s.sew / 8)) (nf + 1) 0 s)) s

/-- An indexed store with index width `2^eLog`; the data is SEW wide (42_memory_access R516). -/
def indexedStore (eLog : Nat) (vm : Bool) (nf vs3 rs1 vs2 : Nat) (s : State) : Host.Outcome State Fault Refusal :=
  runCommand (indexedShapes eLog vs3 vs2 nf)
    (elementLoop (activeElement vm) (fun ei s => do
      let (idx, s) ← vread (2 ^ eLog) vs2 ei s
      storeFields s.sew vs3 ei s.lmulLog (indexedAddr (s.xval rs1) idx.toNat (s.sew / 8)) (nf + 1) 0 s)) s

/-- The body of a fault-only-first load: probe every field of the element, then trap on element 0, truncate `vl` above it, or
write every field (42_memory_access R520, R521). -/
def firstFaultBody (w nf vd rs1 : Nat) (emul : Int) (ei : Nat) (s : State) : Run State :=
  let (vs, s) := probeFields w (unitAddr (s.xval rs1) nf (w / 8) ei) (nf + 1) 0 s
  match s.ffPending with
  | some info =>
    if ei = 0 then .error (.trap (.memFault false info) s)
    else .error (.finished { s with vl := ei, ffPending := none })
  | none => writeFields w vd ei emul 0 vs s

/-- A fault-only-first load of width `2^eLog` (42_memory_access R520). -/
def firstFaultLoad (eLog : Nat) (vm : Bool) (nf vd rs1 : Nat) (s : State) : Host.Outcome State Fault Refusal :=
  runCommand (fun s => s.memoryOk eLog vd nf)
    (elementLoop (activeElement vm) (fun ei s => firstFaultBody (2 ^ eLog) nf vd rs1 (s.emulLog eLog) ei s)) s

/-- One byte of a whole-register or mask load (42_memory_access R525, R530). -/
def loadByte (vd rs1 j : Nat) (s : State) : Run State := do
  let (v, s) ← memRead (s.addr ((s.xval rs1 : Int) + j)) 1 s
  vwriteAt 8 (vd * s.cfg.vlenb + j) (BitVec.ofNat 8 v) s

/-- One byte of a whole-register or mask store (42_memory_access R526, R531). -/
def storeByte (vs3 rs1 j : Nat) (s : State) : Run State := do
  let (v, s) ← vreadAt 8 (vs3 * s.cfg.vlenb + j) s
  memWrite (s.addr ((s.xval rs1 : Int) + j)) 1 v.toNat s

/-- A whole-register load of `n` registers (42_memory_access R525): bytes, whatever `vsew`, `vlmul`, `vl` and the encoded
width. -/
def wholeLoad (n vd rs1 : Nat) (s : State) : Host.Outcome State Fault Refusal :=
  runCommand (fun _ => wholeOk vd n) (fun s => byteLoop (s.cfg.vlenb * n) (loadByte vd rs1) s) s

/-- A whole-register store of `n` registers (42_memory_access R526). -/
def wholeStore (n vs3 rs1 : Nat) (s : State) : Host.Outcome State Fault Refusal :=
  runCommand (fun _ => wholeOk vs3 n) (fun s => byteLoop (s.cfg.vlenb * n) (storeByte vs3 rs1) s) s

/-- `ceil(vl / 8)`, the bytes of a mask load or store (42_memory_access R530). -/
def State.maskBytes (s : State) : Nat := (s.vl + 7) / 8

/-- `vle8.v` (42_memory_access R510). -/
def execVle8V (vm : Bool) (nf vd rs1 : Nat) (s : State) : Host.Outcome State Fault Refusal :=
  unitLoad 3 vm nf vd rs1 s

/-- `vle8ff.v` (42_memory_access R520). -/
def execVle8ffV (vm : Bool) (nf vd rs1 : Nat) (s : State) : Host.Outcome State Fault Refusal :=
  firstFaultLoad 3 vm nf vd rs1 s

/-- `vlse8.v` (42_memory_access R512). -/
def execVlse8V (vm : Bool) (nf vd rs1 rs2 : Nat) (s : State) : Host.Outcome State Fault Refusal :=
  stridedLoad 3 vm nf vd rs1 rs2 s

/-- `vluxei8.v` (42_memory_access R514). -/
def execVluxei8V (vm : Bool) (nf vd rs1 vs2 : Nat) (s : State) : Host.Outcome State Fault Refusal :=
  indexedLoad 3 vm nf vd rs1 vs2 s

/-- `vloxei8.v` (42_memory_access R515). -/
def execVloxei8V (vm : Bool) (nf vd rs1 vs2 : Nat) (s : State) : Host.Outcome State Fault Refusal :=
  indexedLoad 3 vm nf vd rs1 vs2 s

/-- `vse8.v` (42_memory_access R511). -/
def execVse8V (vm : Bool) (nf vs3 rs1 : Nat) (s : State) : Host.Outcome State Fault Refusal :=
  unitStore 3 vm nf vs3 rs1 s

/-- `vsse8.v` (42_memory_access R513). -/
def execVsse8V (vm : Bool) (nf vs3 rs1 rs2 : Nat) (s : State) : Host.Outcome State Fault Refusal :=
  stridedStore 3 vm nf vs3 rs1 rs2 s

/-- `vsuxei8.v` (42_memory_access R516). -/
def execVsuxei8V (vm : Bool) (nf vs3 rs1 vs2 : Nat) (s : State) : Host.Outcome State Fault Refusal :=
  indexedStore 3 vm nf vs3 rs1 vs2 s

/-- `vsoxei8.v` (42_memory_access R517). -/
def execVsoxei8V (vm : Bool) (nf vs3 rs1 vs2 : Nat) (s : State) : Host.Outcome State Fault Refusal :=
  indexedStore 3 vm nf vs3 rs1 vs2 s

/-- `vle16.v` (42_memory_access R510). -/
def execVle16V (vm : Bool) (nf vd rs1 : Nat) (s : State) : Host.Outcome State Fault Refusal :=
  unitLoad 4 vm nf vd rs1 s

/-- `vle16ff.v` (42_memory_access R520). -/
def execVle16ffV (vm : Bool) (nf vd rs1 : Nat) (s : State) : Host.Outcome State Fault Refusal :=
  firstFaultLoad 4 vm nf vd rs1 s

/-- `vlse16.v` (42_memory_access R512). -/
def execVlse16V (vm : Bool) (nf vd rs1 rs2 : Nat) (s : State) : Host.Outcome State Fault Refusal :=
  stridedLoad 4 vm nf vd rs1 rs2 s

/-- `vluxei16.v` (42_memory_access R514). -/
def execVluxei16V (vm : Bool) (nf vd rs1 vs2 : Nat) (s : State) : Host.Outcome State Fault Refusal :=
  indexedLoad 4 vm nf vd rs1 vs2 s

/-- `vloxei16.v` (42_memory_access R515). -/
def execVloxei16V (vm : Bool) (nf vd rs1 vs2 : Nat) (s : State) : Host.Outcome State Fault Refusal :=
  indexedLoad 4 vm nf vd rs1 vs2 s

/-- `vse16.v` (42_memory_access R511). -/
def execVse16V (vm : Bool) (nf vs3 rs1 : Nat) (s : State) : Host.Outcome State Fault Refusal :=
  unitStore 4 vm nf vs3 rs1 s

/-- `vsse16.v` (42_memory_access R513). -/
def execVsse16V (vm : Bool) (nf vs3 rs1 rs2 : Nat) (s : State) : Host.Outcome State Fault Refusal :=
  stridedStore 4 vm nf vs3 rs1 rs2 s

/-- `vsuxei16.v` (42_memory_access R516). -/
def execVsuxei16V (vm : Bool) (nf vs3 rs1 vs2 : Nat) (s : State) : Host.Outcome State Fault Refusal :=
  indexedStore 4 vm nf vs3 rs1 vs2 s

/-- `vsoxei16.v` (42_memory_access R517). -/
def execVsoxei16V (vm : Bool) (nf vs3 rs1 vs2 : Nat) (s : State) : Host.Outcome State Fault Refusal :=
  indexedStore 4 vm nf vs3 rs1 vs2 s

/-- `vle32.v` (42_memory_access R510). -/
def execVle32V (vm : Bool) (nf vd rs1 : Nat) (s : State) : Host.Outcome State Fault Refusal :=
  unitLoad 5 vm nf vd rs1 s

/-- `vle32ff.v` (42_memory_access R520). -/
def execVle32ffV (vm : Bool) (nf vd rs1 : Nat) (s : State) : Host.Outcome State Fault Refusal :=
  firstFaultLoad 5 vm nf vd rs1 s

/-- `vlse32.v` (42_memory_access R512). -/
def execVlse32V (vm : Bool) (nf vd rs1 rs2 : Nat) (s : State) : Host.Outcome State Fault Refusal :=
  stridedLoad 5 vm nf vd rs1 rs2 s

/-- `vluxei32.v` (42_memory_access R514). -/
def execVluxei32V (vm : Bool) (nf vd rs1 vs2 : Nat) (s : State) : Host.Outcome State Fault Refusal :=
  indexedLoad 5 vm nf vd rs1 vs2 s

/-- `vloxei32.v` (42_memory_access R515). -/
def execVloxei32V (vm : Bool) (nf vd rs1 vs2 : Nat) (s : State) : Host.Outcome State Fault Refusal :=
  indexedLoad 5 vm nf vd rs1 vs2 s

/-- `vse32.v` (42_memory_access R511). -/
def execVse32V (vm : Bool) (nf vs3 rs1 : Nat) (s : State) : Host.Outcome State Fault Refusal :=
  unitStore 5 vm nf vs3 rs1 s

/-- `vsse32.v` (42_memory_access R513). -/
def execVsse32V (vm : Bool) (nf vs3 rs1 rs2 : Nat) (s : State) : Host.Outcome State Fault Refusal :=
  stridedStore 5 vm nf vs3 rs1 rs2 s

/-- `vsuxei32.v` (42_memory_access R516). -/
def execVsuxei32V (vm : Bool) (nf vs3 rs1 vs2 : Nat) (s : State) : Host.Outcome State Fault Refusal :=
  indexedStore 5 vm nf vs3 rs1 vs2 s

/-- `vsoxei32.v` (42_memory_access R517). -/
def execVsoxei32V (vm : Bool) (nf vs3 rs1 vs2 : Nat) (s : State) : Host.Outcome State Fault Refusal :=
  indexedStore 5 vm nf vs3 rs1 vs2 s

/-- `vle64.v` (42_memory_access R510). -/
def execVle64V (vm : Bool) (nf vd rs1 : Nat) (s : State) : Host.Outcome State Fault Refusal :=
  unitLoad 6 vm nf vd rs1 s

/-- `vle64ff.v` (42_memory_access R520). -/
def execVle64ffV (vm : Bool) (nf vd rs1 : Nat) (s : State) : Host.Outcome State Fault Refusal :=
  firstFaultLoad 6 vm nf vd rs1 s

/-- `vlse64.v` (42_memory_access R512). -/
def execVlse64V (vm : Bool) (nf vd rs1 rs2 : Nat) (s : State) : Host.Outcome State Fault Refusal :=
  stridedLoad 6 vm nf vd rs1 rs2 s

/-- `vluxei64.v` (42_memory_access R514). -/
def execVluxei64V (vm : Bool) (nf vd rs1 vs2 : Nat) (s : State) : Host.Outcome State Fault Refusal :=
  indexedLoad 6 vm nf vd rs1 vs2 s

/-- `vloxei64.v` (42_memory_access R515). -/
def execVloxei64V (vm : Bool) (nf vd rs1 vs2 : Nat) (s : State) : Host.Outcome State Fault Refusal :=
  indexedLoad 6 vm nf vd rs1 vs2 s

/-- `vse64.v` (42_memory_access R511). -/
def execVse64V (vm : Bool) (nf vs3 rs1 : Nat) (s : State) : Host.Outcome State Fault Refusal :=
  unitStore 6 vm nf vs3 rs1 s

/-- `vsse64.v` (42_memory_access R513). -/
def execVsse64V (vm : Bool) (nf vs3 rs1 rs2 : Nat) (s : State) : Host.Outcome State Fault Refusal :=
  stridedStore 6 vm nf vs3 rs1 rs2 s

/-- `vsuxei64.v` (42_memory_access R516). -/
def execVsuxei64V (vm : Bool) (nf vs3 rs1 vs2 : Nat) (s : State) : Host.Outcome State Fault Refusal :=
  indexedStore 6 vm nf vs3 rs1 vs2 s

/-- `vsoxei64.v` (42_memory_access R517). -/
def execVsoxei64V (vm : Bool) (nf vs3 rs1 vs2 : Nat) (s : State) : Host.Outcome State Fault Refusal :=
  indexedStore 6 vm nf vs3 rs1 vs2 s

/-- `vl1re8.v` (42_memory_access R525). -/
def execVl1re8V (vd rs1 : Nat) (s : State) : Host.Outcome State Fault Refusal :=
  wholeLoad 1 vd rs1 s

/-- `vl1re16.v` (42_memory_access R525). -/
def execVl1re16V (vd rs1 : Nat) (s : State) : Host.Outcome State Fault Refusal :=
  wholeLoad 1 vd rs1 s

/-- `vl1re32.v` (42_memory_access R525). -/
def execVl1re32V (vd rs1 : Nat) (s : State) : Host.Outcome State Fault Refusal :=
  wholeLoad 1 vd rs1 s

/-- `vl1re64.v` (42_memory_access R525). -/
def execVl1re64V (vd rs1 : Nat) (s : State) : Host.Outcome State Fault Refusal :=
  wholeLoad 1 vd rs1 s

/-- `vs1r.v` (42_memory_access R526). -/
def execVs1rV (vs3 rs1 : Nat) (s : State) : Host.Outcome State Fault Refusal :=
  wholeStore 1 vs3 rs1 s

/-- `vl2re8.v` (42_memory_access R525). -/
def execVl2re8V (vd rs1 : Nat) (s : State) : Host.Outcome State Fault Refusal :=
  wholeLoad 2 vd rs1 s

/-- `vl2re16.v` (42_memory_access R525). -/
def execVl2re16V (vd rs1 : Nat) (s : State) : Host.Outcome State Fault Refusal :=
  wholeLoad 2 vd rs1 s

/-- `vl2re32.v` (42_memory_access R525). -/
def execVl2re32V (vd rs1 : Nat) (s : State) : Host.Outcome State Fault Refusal :=
  wholeLoad 2 vd rs1 s

/-- `vl2re64.v` (42_memory_access R525). -/
def execVl2re64V (vd rs1 : Nat) (s : State) : Host.Outcome State Fault Refusal :=
  wholeLoad 2 vd rs1 s

/-- `vs2r.v` (42_memory_access R526). -/
def execVs2rV (vs3 rs1 : Nat) (s : State) : Host.Outcome State Fault Refusal :=
  wholeStore 2 vs3 rs1 s

/-- `vl4re8.v` (42_memory_access R525). -/
def execVl4re8V (vd rs1 : Nat) (s : State) : Host.Outcome State Fault Refusal :=
  wholeLoad 4 vd rs1 s

/-- `vl4re16.v` (42_memory_access R525). -/
def execVl4re16V (vd rs1 : Nat) (s : State) : Host.Outcome State Fault Refusal :=
  wholeLoad 4 vd rs1 s

/-- `vl4re32.v` (42_memory_access R525). -/
def execVl4re32V (vd rs1 : Nat) (s : State) : Host.Outcome State Fault Refusal :=
  wholeLoad 4 vd rs1 s

/-- `vl4re64.v` (42_memory_access R525). -/
def execVl4re64V (vd rs1 : Nat) (s : State) : Host.Outcome State Fault Refusal :=
  wholeLoad 4 vd rs1 s

/-- `vs4r.v` (42_memory_access R526). -/
def execVs4rV (vs3 rs1 : Nat) (s : State) : Host.Outcome State Fault Refusal :=
  wholeStore 4 vs3 rs1 s

/-- `vl8re8.v` (42_memory_access R525). -/
def execVl8re8V (vd rs1 : Nat) (s : State) : Host.Outcome State Fault Refusal :=
  wholeLoad 8 vd rs1 s

/-- `vl8re16.v` (42_memory_access R525). -/
def execVl8re16V (vd rs1 : Nat) (s : State) : Host.Outcome State Fault Refusal :=
  wholeLoad 8 vd rs1 s

/-- `vl8re32.v` (42_memory_access R525). -/
def execVl8re32V (vd rs1 : Nat) (s : State) : Host.Outcome State Fault Refusal :=
  wholeLoad 8 vd rs1 s

/-- `vl8re64.v` (42_memory_access R525). -/
def execVl8re64V (vd rs1 : Nat) (s : State) : Host.Outcome State Fault Refusal :=
  wholeLoad 8 vd rs1 s

/-- `vs8r.v` (42_memory_access R526). -/
def execVs8rV (vs3 rs1 : Nat) (s : State) : Host.Outcome State Fault Refusal :=
  wholeStore 8 vs3 rs1 s

/-- `vlm.v` (42_memory_access R530). -/
def execVlmV (vd rs1 : Nat) (s : State) : Host.Outcome State Fault Refusal :=
  runCommand (fun _ => true) (fun s => byteLoop s.maskBytes (loadByte vd rs1) s) s

/-- `vsm.v` (42_memory_access R531). -/
def execVsmV (vs3 rs1 : Nat) (s : State) : Host.Outcome State Fault Refusal :=
  runCommand (fun _ => true) (fun s => byteLoop s.maskBytes (storeByte vs3 rs1) s) s

end Sys2Proof.Machine
end

