-- ==== Sys2Proof/Machine/MulDiv.lean ====
section
/-! DEFINITION. Multiply-high, divide and remainder (46_multiply_high_divide). The dividend is `op2`, the divisor `op1`; division truncates
toward zero (R913). -/

namespace Sys2Proof.Machine

/-- `vmulhu` on one element (46 R910). -/
def mulhuElem (w : Nat) (op2 op1 : BitVec w) : BitVec w :=
  trunc w ((op2.toNat : Int) * op1.toNat / 2 ^ w)

/-- `vmulh` on one element (46 R911). -/
def mulhElem (w : Nat) (op2 op1 : BitVec w) : BitVec w :=
  trunc w (op2.toInt * op1.toInt / 2 ^ w)

/-- `vmulhsu` on one element (46 R912). -/
def mulhsuElem (w : Nat) (op2 op1 : BitVec w) : BitVec w :=
  trunc w (op2.toInt * op1.toNat / 2 ^ w)

/-- `vdivu` on one element (46 R920). -/
def divuElem (w : Nat) (op2 op1 : BitVec w) : BitVec w :=
  if op1.toNat = 0 then trunc w (2 ^ w - 1) else trunc w ((op2.toNat / op1.toNat : Nat) : Int)

/-- `vdiv` on one element (46 R921). -/
def divElem (w : Nat) (op2 op1 : BitVec w) : BitVec w :=
  if op1.toInt = 0 then trunc w (-1)
  else if op2.toInt = -2 ^ (w - 1) ∧ op1.toInt = -1 then trunc w (-2 ^ (w - 1))
  else trunc w (op2.toInt.tdiv op1.toInt)

/-- `vremu` on one element (46 R922). -/
def remuElem (w : Nat) (op2 op1 : BitVec w) : BitVec w :=
  if op1.toNat = 0 then trunc w op2.toNat else trunc w ((op2.toNat % op1.toNat : Nat) : Int)

/-- `vrem` on one element (46 R923). -/
def remElem (w : Nat) (op2 op1 : BitVec w) : BitVec w :=
  if op1.toInt = 0 then trunc w op2.toInt
  else if op2.toInt = -2 ^ (w - 1) ∧ op1.toInt = -1 then trunc w 0
  else trunc w (op2.toInt - op2.toInt.tdiv op1.toInt * op1.toInt)

/-- `vmulhu.vv` (46 R910). -/
def execVmulhuVv (vm : Bool) (vd vs2 vs1 : Nat) (s : State) : Host.Outcome State Fault Refusal :=
  sameWidth vm vd vs2 (.vec vs1) (fun w => plain (mulhuElem w)) s

/-- `vmulhu.vx` (46 R910). -/
def execVmulhuVx (vm : Bool) (vd vs2 rs1 : Nat) (s : State) : Host.Outcome State Fault Refusal :=
  sameWidth vm vd vs2 (.scalar rs1) (fun w => plain (mulhuElem w)) s

/-- `vmulh.vv` (46 R911). -/
def execVmulhVv (vm : Bool) (vd vs2 vs1 : Nat) (s : State) : Host.Outcome State Fault Refusal :=
  sameWidth vm vd vs2 (.vec vs1) (fun w => plain (mulhElem w)) s

/-- `vmulh.vx` (46 R911). -/
def execVmulhVx (vm : Bool) (vd vs2 rs1 : Nat) (s : State) : Host.Outcome State Fault Refusal :=
  sameWidth vm vd vs2 (.scalar rs1) (fun w => plain (mulhElem w)) s

/-- `vmulhsu.vv` (46 R912). -/
def execVmulhsuVv (vm : Bool) (vd vs2 vs1 : Nat) (s : State) : Host.Outcome State Fault Refusal :=
  sameWidth vm vd vs2 (.vec vs1) (fun w => plain (mulhsuElem w)) s

/-- `vmulhsu.vx` (46 R912). -/
def execVmulhsuVx (vm : Bool) (vd vs2 rs1 : Nat) (s : State) : Host.Outcome State Fault Refusal :=
  sameWidth vm vd vs2 (.scalar rs1) (fun w => plain (mulhsuElem w)) s

/-- `vdivu.vv` (46 R920). -/
def execVdivuVv (vm : Bool) (vd vs2 vs1 : Nat) (s : State) : Host.Outcome State Fault Refusal :=
  sameWidth vm vd vs2 (.vec vs1) (fun w => plain (divuElem w)) s

/-- `vdivu.vx` (46 R920). -/
def execVdivuVx (vm : Bool) (vd vs2 rs1 : Nat) (s : State) : Host.Outcome State Fault Refusal :=
  sameWidth vm vd vs2 (.scalar rs1) (fun w => plain (divuElem w)) s

/-- `vdiv.vv` (46 R921). -/
def execVdivVv (vm : Bool) (vd vs2 vs1 : Nat) (s : State) : Host.Outcome State Fault Refusal :=
  sameWidth vm vd vs2 (.vec vs1) (fun w => plain (divElem w)) s

/-- `vdiv.vx` (46 R921). -/
def execVdivVx (vm : Bool) (vd vs2 rs1 : Nat) (s : State) : Host.Outcome State Fault Refusal :=
  sameWidth vm vd vs2 (.scalar rs1) (fun w => plain (divElem w)) s

/-- `vremu.vv` (46 R922). -/
def execVremuVv (vm : Bool) (vd vs2 vs1 : Nat) (s : State) : Host.Outcome State Fault Refusal :=
  sameWidth vm vd vs2 (.vec vs1) (fun w => plain (remuElem w)) s

/-- `vremu.vx` (46 R922). -/
def execVremuVx (vm : Bool) (vd vs2 rs1 : Nat) (s : State) : Host.Outcome State Fault Refusal :=
  sameWidth vm vd vs2 (.scalar rs1) (fun w => plain (remuElem w)) s

/-- `vrem.vv` (46 R923). -/
def execVremVv (vm : Bool) (vd vs2 vs1 : Nat) (s : State) : Host.Outcome State Fault Refusal :=
  sameWidth vm vd vs2 (.vec vs1) (fun w => plain (remElem w)) s

/-- `vrem.vx` (46 R923). -/
def execVremVx (vm : Bool) (vd vs2 rs1 : Nat) (s : State) : Host.Outcome State Fault Refusal :=
  sameWidth vm vd vs2 (.scalar rs1) (fun w => plain (remElem w)) s

end Sys2Proof.Machine
end

