-- ==== Sys2Proof/Machine/Permutation.lean ====
section
/-! DEFINITION. Gather and slide operations (48_permutation). VLMAX and `vl` are those of the command's start. -/

namespace Sys2Proof.Machine

/-- `vrgather` on one element: an index at or above VLMAX gives 0 (48_permutation R1010). -/
def gatherBody (w vlmax vd vs2 : Nat) (src : Src) (ei : Nat) (s : State) : Run State := do
  let (idx, s) ← indexOperand w src ei s
  if vlmax ≤ idx then vwrite w vd ei 0 s
  else do
    let (v, s) ← vread w vs2 idx s
    vwrite w vd ei v s

/-- `vslideup` on one element: below OFFSET nothing is written (48_permutation R1020). -/
def slideUpBody (w vd vs2 : Nat) (src : Src) (ei : Nat) (s : State) : Run State := do
  let (offset, s) ← indexOperand w src ei s
  if offset ≤ ei then do
    let (v, s) ← vread w vs2 (ei - offset) s
    vwrite w vd ei v s
  else .ok s

/-- `vslidedown` on one element: a source index at or above VLMAX gives 0 (48_permutation R1021). -/
def slideDownBody (w vlmax vd vs2 : Nat) (src : Src) (ei : Nat) (s : State) : Run State := do
  let (offset, s) ← indexOperand w src ei s
  if ei + offset < vlmax then do
    let (v, s) ← vread w vs2 (ei + offset) s
    vwrite w vd ei v s
  else vwrite w vd ei 0 s

/-- `vslide1up` on one element: the scalar enters at element 0 (48_permutation R1022). -/
def slide1UpBody (w vd vs2 rs1 : Nat) (ei : Nat) (s : State) : Run State :=
  if ei = 0 then vwrite w vd ei (s.scalar w rs1) s
  else do
    let (v, s) ← vread w vs2 (ei - 1) s
    vwrite w vd ei v s

/-- `vslide1down` on one element: the scalar enters at element `vl - 1` (48_permutation R1023). -/
def slide1DownBody (w vl vd vs2 rs1 : Nat) (ei : Nat) (s : State) : Run State :=
  if ei + 1 = vl then vwrite w vd ei (s.scalar w rs1) s
  else do
    let (v, s) ← vread w vs2 (ei + 1) s
    vwrite w vd ei v s

/-- A gather or slide command (48_permutation R1000). -/
def permute (vm : Bool) (vd vs2 : Nat) (src : Src) (body : Nat → State → Run State) (s : State) :
    Host.Outcome State Fault Refusal :=
  runCommand (sameWidthShapes vd vs2 src) (elementLoop (activeElement vm) body) s

/-- `vrgather.vv` (48_permutation R1010). -/
def execVrgatherVv (vm : Bool) (vd vs2 vs1 : Nat) (s : State) : Host.Outcome State Fault Refusal :=
  permute vm vd vs2 (.vec vs1) (gatherBody s.sew s.vlmax vd vs2 (.vec vs1)) s

/-- `vrgather.vx` (48_permutation R1010). -/
def execVrgatherVx (vm : Bool) (vd vs2 rs1 : Nat) (s : State) : Host.Outcome State Fault Refusal :=
  permute vm vd vs2 (.scalar rs1) (gatherBody s.sew s.vlmax vd vs2 (.scalar rs1)) s

/-- `vrgather.vi` (48_permutation R1010). -/
def execVrgatherVi (vm : Bool) (vd vs2 imm5 : Nat) (s : State) : Host.Outcome State Fault Refusal :=
  permute vm vd vs2 (.uimm imm5) (gatherBody s.sew s.vlmax vd vs2 (.uimm imm5)) s

/-- `vslideup.vx` (48_permutation R1020). -/
def execVslideupVx (vm : Bool) (vd vs2 rs1 : Nat) (s : State) : Host.Outcome State Fault Refusal :=
  permute vm vd vs2 (.scalar rs1) (slideUpBody s.sew vd vs2 (.scalar rs1)) s

/-- `vslideup.vi` (48_permutation R1020). -/
def execVslideupVi (vm : Bool) (vd vs2 imm5 : Nat) (s : State) : Host.Outcome State Fault Refusal :=
  permute vm vd vs2 (.uimm imm5) (slideUpBody s.sew vd vs2 (.uimm imm5)) s

/-- `vslidedown.vx` (48_permutation R1021). -/
def execVslidedownVx (vm : Bool) (vd vs2 rs1 : Nat) (s : State) : Host.Outcome State Fault Refusal :=
  permute vm vd vs2 (.scalar rs1) (slideDownBody s.sew s.vlmax vd vs2 (.scalar rs1)) s

/-- `vslidedown.vi` (48_permutation R1021). -/
def execVslidedownVi (vm : Bool) (vd vs2 imm5 : Nat) (s : State) : Host.Outcome State Fault Refusal :=
  permute vm vd vs2 (.uimm imm5) (slideDownBody s.sew s.vlmax vd vs2 (.uimm imm5)) s

/-- `vslide1up.vx` (48_permutation R1022). -/
def execVslide1upVx (vm : Bool) (vd vs2 rs1 : Nat) (s : State) : Host.Outcome State Fault Refusal :=
  permute vm vd vs2 (.scalar rs1) (slide1UpBody s.sew vd vs2 rs1) s

/-- `vslide1down.vx` (48_permutation R1023). -/
def execVslide1downVx (vm : Bool) (vd vs2 rs1 : Nat) (s : State) : Host.Outcome State Fault Refusal :=
  permute vm vd vs2 (.scalar rs1) (slide1DownBody s.sew s.vl vd vs2 rs1) s

end Sys2Proof.Machine
end

