-- ==== Sys2Proof/Machine/Reductions.lean ====
section
/-! DEFINITION. Reductions (47_reductions). An operator takes the accumulator, then the element. -/

namespace Sys2Proof.Machine

/-- The fold body of a reduction: `acc <- op(acc, ext(vread(vs2, ei, SEW)))` (47_reductions R950). -/
def reduceBody (w aw vs2 : Nat) (ext : BitVec w → BitVec aw) (op : BitVec aw → BitVec aw → BitVec aw) (ei : Nat)
    (acc : BitVec aw) (s : State) : Run (BitVec aw × State) := do
  let (x, s) ← vread w vs2 ei s
  .ok (op acc (ext x), s)

/-- `Reduce` (47_reductions R950, R951): the seed, the fold, one write of element 0 of `vd`. With `vl = 0` and
`RED_WRITES_EMPTY` false nothing is read or written (R951; log 17). -/
def reduceRun (w aw : Nat) (vm : Bool) (vd vs2 vs1 : Nat) (ext : BitVec w → BitVec aw)
    (op : BitVec aw → BitVec aw → BitVec aw) (s : State) : Run State :=
  if s.vl = 0 ∧ !s.cfg.redWritesEmpty then .ok s
  else do
    let (seed, s1) ← vread aw vs1 0 s
    let (acc, s2) ← foldSteps vm (reduceBody w aw vs2 ext op) (s.vl - s.vstart) s.vstart seed s1
    vwrite aw vd 0 acc s2

/-- A single-width reduction: the accumulator is SEW wide and `ext` is the identity (47_reductions R950, R953). -/
def reduce (vm : Bool) (vd vs2 vs1 : Nat) (op : (w : Nat) → BitVec w → BitVec w → BitVec w) (s : State) :
    Host.Outcome State Fault Refusal :=
  runCommand (reductionShapes s.sew vd vs2 vs1) (reduceRun s.sew s.sew vm vd vs2 vs1 id (op s.sew)) s

/-- A widening sum reduction: the accumulator is 2 SEW wide (47_reductions R950, R953, R970). -/
def reduceWide (vm : Bool) (vd vs2 vs1 : Nat) (ext : (w w2 : Nat) → BitVec w → BitVec w2)
    (op : (w : Nat) → BitVec w → BitVec w → BitVec w) (s : State) : Host.Outcome State Fault Refusal :=
  runCommand (reductionShapes (2 * s.sew) vd vs2 vs1)
    (reduceRun s.sew (2 * s.sew) vm vd vs2 vs1 (ext s.sew (2 * s.sew)) (op (2 * s.sew))) s

/-- The operator of `vredsum` and of the widening sums (47_reductions R960, R970, R971). -/
def redSumOp (w : Nat) (acc x : BitVec w) : BitVec w :=
  trunc w ((acc.toNat : Int) + x.toNat)

/-- The operator of `vredand` (47_reductions R961). -/
def redAndOp (w : Nat) (acc x : BitVec w) : BitVec w :=
  acc &&& x

/-- The operator of `vredor` (47_reductions R962). -/
def redOrOp (w : Nat) (acc x : BitVec w) : BitVec w :=
  acc ||| x

/-- The operator of `vredxor` (47_reductions R963). -/
def redXorOp (w : Nat) (acc x : BitVec w) : BitVec w :=
  acc ^^^ x

/-- The operator of `vredminu` (47_reductions R964). -/
def redMinuOp (w : Nat) (acc x : BitVec w) : BitVec w :=
  if x.toNat < acc.toNat then x else acc

/-- The operator of `vredmin` (47_reductions R965). -/
def redMinOp (w : Nat) (acc x : BitVec w) : BitVec w :=
  if x.toInt < acc.toInt then x else acc

/-- The operator of `vredmaxu` (47_reductions R966). -/
def redMaxuOp (w : Nat) (acc x : BitVec w) : BitVec w :=
  if x.toNat > acc.toNat then x else acc

/-- The operator of `vredmax` (47_reductions R967). -/
def redMaxOp (w : Nat) (acc x : BitVec w) : BitVec w :=
  if x.toInt > acc.toInt then x else acc

/-- `vredsum.vs` (47_reductions R960). -/
def execVredsumVs (vm : Bool) (vd vs2 vs1 : Nat) (s : State) : Host.Outcome State Fault Refusal :=
  reduce vm vd vs2 vs1 redSumOp s

/-- `vredand.vs` (47_reductions R961). -/
def execVredandVs (vm : Bool) (vd vs2 vs1 : Nat) (s : State) : Host.Outcome State Fault Refusal :=
  reduce vm vd vs2 vs1 redAndOp s

/-- `vredor.vs` (47_reductions R962). -/
def execVredorVs (vm : Bool) (vd vs2 vs1 : Nat) (s : State) : Host.Outcome State Fault Refusal :=
  reduce vm vd vs2 vs1 redOrOp s

/-- `vredxor.vs` (47_reductions R963). -/
def execVredxorVs (vm : Bool) (vd vs2 vs1 : Nat) (s : State) : Host.Outcome State Fault Refusal :=
  reduce vm vd vs2 vs1 redXorOp s

/-- `vredminu.vs` (47_reductions R964). -/
def execVredminuVs (vm : Bool) (vd vs2 vs1 : Nat) (s : State) : Host.Outcome State Fault Refusal :=
  reduce vm vd vs2 vs1 redMinuOp s

/-- `vredmin.vs` (47_reductions R965). -/
def execVredminVs (vm : Bool) (vd vs2 vs1 : Nat) (s : State) : Host.Outcome State Fault Refusal :=
  reduce vm vd vs2 vs1 redMinOp s

/-- `vredmaxu.vs` (47_reductions R966). -/
def execVredmaxuVs (vm : Bool) (vd vs2 vs1 : Nat) (s : State) : Host.Outcome State Fault Refusal :=
  reduce vm vd vs2 vs1 redMaxuOp s

/-- `vredmax.vs` (47_reductions R967). -/
def execVredmaxVs (vm : Bool) (vd vs2 vs1 : Nat) (s : State) : Host.Outcome State Fault Refusal :=
  reduce vm vd vs2 vs1 redMaxOp s

/-- `vwredsumu.vs` (47_reductions R970). -/
def execVwredsumuVs (vm : Bool) (vd vs2 vs1 : Nat) (s : State) : Host.Outcome State Fault Refusal :=
  reduceWide vm vd vs2 vs1 (fun _ w2 => BitVec.setWidth w2) redSumOp s

/-- `vwredsum.vs` (47_reductions R971). -/
def execVwredsumVs (vm : Bool) (vd vs2 vs1 : Nat) (s : State) : Host.Outcome State Fault Refusal :=
  reduceWide vm vd vs2 vs1 (fun _ w2 => BitVec.signExtend w2) redSumOp s

end Sys2Proof.Machine
end

