-- ==== Sys2Proof/Machine/SameWidth.lean ====
section
/-! DEFINITION. Same-width integer operations (43_alu_same_width). An element function takes `op2`, then `op1`; sums and products are of
exact integers, narrowed by `trunc` (00_scope R14). -/

namespace Sys2Proof.Machine

/-- `vadd` on one element (43_alu R610). -/
def addElem (w : Nat) (op2 op1 : BitVec w) : BitVec w :=
  trunc w ((op2.toNat : Int) + op1.toNat)

/-- `vsub` on one element (43_alu R611). -/
def subElem (w : Nat) (op2 op1 : BitVec w) : BitVec w :=
  trunc w ((op2.toNat : Int) - op1.toNat)

/-- `vrsub` on one element (43_alu R612). -/
def rsubElem (w : Nat) (op2 op1 : BitVec w) : BitVec w :=
  trunc w ((op1.toNat : Int) - op2.toNat)

/-- `vand` on one element (43_alu R613). -/
def andElem (w : Nat) (op2 op1 : BitVec w) : BitVec w :=
  op2 &&& op1

/-- `vor` on one element (43_alu R614). -/
def orElem (w : Nat) (op2 op1 : BitVec w) : BitVec w :=
  op2 ||| op1

/-- `vxor` on one element (43_alu R615). -/
def xorElem (w : Nat) (op2 op1 : BitVec w) : BitVec w :=
  op2 ^^^ op1

/-- `vsll` on one element (43_alu R616). -/
def sllElem (w : Nat) (op2 op1 : BitVec w) : BitVec w :=
  trunc w ((op2.toNat : Int) * 2 ^ shiftAmount w op1)

/-- `vsrl` on one element (43_alu R617). -/
def srlElem (w : Nat) (op2 op1 : BitVec w) : BitVec w :=
  trunc w ((op2.toNat : Int) / 2 ^ shiftAmount w op1)

/-- `vsra` on one element (43_alu R618). -/
def sraElem (w : Nat) (op2 op1 : BitVec w) : BitVec w :=
  trunc w (op2.toInt / 2 ^ shiftAmount w op1)

/-- `vminu` on one element (43_alu R619). -/
def minuElem (w : Nat) (op2 op1 : BitVec w) : BitVec w :=
  if op2.toNat ≤ op1.toNat then op2 else op1

/-- `vmin` on one element (43_alu R620). -/
def minElem (w : Nat) (op2 op1 : BitVec w) : BitVec w :=
  if op2.toInt ≤ op1.toInt then op2 else op1

/-- `vmaxu` on one element (43_alu R621). -/
def maxuElem (w : Nat) (op2 op1 : BitVec w) : BitVec w :=
  if op2.toNat ≥ op1.toNat then op2 else op1

/-- `vmax` on one element (43_alu R622). -/
def maxElem (w : Nat) (op2 op1 : BitVec w) : BitVec w :=
  if op2.toInt ≥ op1.toInt then op2 else op1

/-- `vmul` on one element (43_alu R623). -/
def mulElem (w : Nat) (op2 op1 : BitVec w) : BitVec w :=
  trunc w ((op2.toNat : Int) * op1.toNat)

/-- `vmacc` on one element (43_alu R624). -/
def maccElem (w : Nat) (op1 op2 acc : BitVec w) : BitVec w :=
  trunc w ((op1.toNat : Int) * op2.toNat + acc.toNat)

/-- `vnmsac` on one element (43_alu R625). -/
def nmsacElem (w : Nat) (op1 op2 acc : BitVec w) : BitVec w :=
  trunc w ((acc.toNat : Int) - op1.toNat * op2.toNat)

/-- `vmadd` on one element (43_alu R626). -/
def maddElem (w : Nat) (op1 op2 acc : BitVec w) : BitVec w :=
  trunc w ((op1.toNat : Int) * acc.toNat + op2.toNat)

/-- `vnmsub` on one element (43_alu R627). -/
def nmsubElem (w : Nat) (op1 op2 acc : BitVec w) : BitVec w :=
  trunc w ((op2.toNat : Int) - op1.toNat * acc.toNat)

/-- `vadc` on one element (43_alu R628). -/
def adcElem (w : Nat) (op2 op1 : BitVec w) (c : Bool) : BitVec w :=
  trunc w ((op2.toNat : Int) + op1.toNat + c.toNat)

/-- `vsbc` on one element (43_alu R629). -/
def sbcElem (w : Nat) (op2 op1 : BitVec w) (c : Bool) : BitVec w :=
  trunc w ((op2.toNat : Int) - op1.toNat - c.toNat)

/-- `vadd.vv` (43_alu R610). -/
def execVaddVv (vm : Bool) (vd vs2 vs1 : Nat) (s : State) : Host.Outcome State Fault Refusal :=
  sameWidth vm vd vs2 (.vec vs1) (fun w => plain (addElem w)) s

/-- `vadd.vx` (43_alu R610). -/
def execVaddVx (vm : Bool) (vd vs2 rs1 : Nat) (s : State) : Host.Outcome State Fault Refusal :=
  sameWidth vm vd vs2 (.scalar rs1) (fun w => plain (addElem w)) s

/-- `vadd.vi` (43_alu R610). -/
def execVaddVi (vm : Bool) (vd vs2 imm5 : Nat) (s : State) : Host.Outcome State Fault Refusal :=
  sameWidth vm vd vs2 (.simm imm5) (fun w => plain (addElem w)) s

/-- `vsub.vv` (43_alu R611). -/
def execVsubVv (vm : Bool) (vd vs2 vs1 : Nat) (s : State) : Host.Outcome State Fault Refusal :=
  sameWidth vm vd vs2 (.vec vs1) (fun w => plain (subElem w)) s

/-- `vsub.vx` (43_alu R611). -/
def execVsubVx (vm : Bool) (vd vs2 rs1 : Nat) (s : State) : Host.Outcome State Fault Refusal :=
  sameWidth vm vd vs2 (.scalar rs1) (fun w => plain (subElem w)) s

/-- `vrsub.vx` (43_alu R612). -/
def execVrsubVx (vm : Bool) (vd vs2 rs1 : Nat) (s : State) : Host.Outcome State Fault Refusal :=
  sameWidth vm vd vs2 (.scalar rs1) (fun w => plain (rsubElem w)) s

/-- `vrsub.vi` (43_alu R612). -/
def execVrsubVi (vm : Bool) (vd vs2 imm5 : Nat) (s : State) : Host.Outcome State Fault Refusal :=
  sameWidth vm vd vs2 (.simm imm5) (fun w => plain (rsubElem w)) s

/-- `vand.vv` (43_alu R613). -/
def execVandVv (vm : Bool) (vd vs2 vs1 : Nat) (s : State) : Host.Outcome State Fault Refusal :=
  sameWidth vm vd vs2 (.vec vs1) (fun w => plain (andElem w)) s

/-- `vand.vx` (43_alu R613). -/
def execVandVx (vm : Bool) (vd vs2 rs1 : Nat) (s : State) : Host.Outcome State Fault Refusal :=
  sameWidth vm vd vs2 (.scalar rs1) (fun w => plain (andElem w)) s

/-- `vand.vi` (43_alu R613). -/
def execVandVi (vm : Bool) (vd vs2 imm5 : Nat) (s : State) : Host.Outcome State Fault Refusal :=
  sameWidth vm vd vs2 (.simm imm5) (fun w => plain (andElem w)) s

/-- `vor.vv` (43_alu R614). -/
def execVorVv (vm : Bool) (vd vs2 vs1 : Nat) (s : State) : Host.Outcome State Fault Refusal :=
  sameWidth vm vd vs2 (.vec vs1) (fun w => plain (orElem w)) s

/-- `vor.vx` (43_alu R614). -/
def execVorVx (vm : Bool) (vd vs2 rs1 : Nat) (s : State) : Host.Outcome State Fault Refusal :=
  sameWidth vm vd vs2 (.scalar rs1) (fun w => plain (orElem w)) s

/-- `vor.vi` (43_alu R614). -/
def execVorVi (vm : Bool) (vd vs2 imm5 : Nat) (s : State) : Host.Outcome State Fault Refusal :=
  sameWidth vm vd vs2 (.simm imm5) (fun w => plain (orElem w)) s

/-- `vxor.vv` (43_alu R615). -/
def execVxorVv (vm : Bool) (vd vs2 vs1 : Nat) (s : State) : Host.Outcome State Fault Refusal :=
  sameWidth vm vd vs2 (.vec vs1) (fun w => plain (xorElem w)) s

/-- `vxor.vx` (43_alu R615). -/
def execVxorVx (vm : Bool) (vd vs2 rs1 : Nat) (s : State) : Host.Outcome State Fault Refusal :=
  sameWidth vm vd vs2 (.scalar rs1) (fun w => plain (xorElem w)) s

/-- `vxor.vi` (43_alu R615). -/
def execVxorVi (vm : Bool) (vd vs2 imm5 : Nat) (s : State) : Host.Outcome State Fault Refusal :=
  sameWidth vm vd vs2 (.simm imm5) (fun w => plain (xorElem w)) s

/-- `vsll.vv` (43_alu R616). -/
def execVsllVv (vm : Bool) (vd vs2 vs1 : Nat) (s : State) : Host.Outcome State Fault Refusal :=
  sameWidth vm vd vs2 (.vec vs1) (fun w => plain (sllElem w)) s

/-- `vsll.vx` (43_alu R616). -/
def execVsllVx (vm : Bool) (vd vs2 rs1 : Nat) (s : State) : Host.Outcome State Fault Refusal :=
  sameWidth vm vd vs2 (.scalar rs1) (fun w => plain (sllElem w)) s

/-- `vsll.vi` (43_alu R616). -/
def execVsllVi (vm : Bool) (vd vs2 imm5 : Nat) (s : State) : Host.Outcome State Fault Refusal :=
  sameWidth vm vd vs2 (.uimm imm5) (fun w => plain (sllElem w)) s

/-- `vsrl.vv` (43_alu R617). -/
def execVsrlVv (vm : Bool) (vd vs2 vs1 : Nat) (s : State) : Host.Outcome State Fault Refusal :=
  sameWidth vm vd vs2 (.vec vs1) (fun w => plain (srlElem w)) s

/-- `vsrl.vx` (43_alu R617). -/
def execVsrlVx (vm : Bool) (vd vs2 rs1 : Nat) (s : State) : Host.Outcome State Fault Refusal :=
  sameWidth vm vd vs2 (.scalar rs1) (fun w => plain (srlElem w)) s

/-- `vsrl.vi` (43_alu R617). -/
def execVsrlVi (vm : Bool) (vd vs2 imm5 : Nat) (s : State) : Host.Outcome State Fault Refusal :=
  sameWidth vm vd vs2 (.uimm imm5) (fun w => plain (srlElem w)) s

/-- `vsra.vv` (43_alu R618). -/
def execVsraVv (vm : Bool) (vd vs2 vs1 : Nat) (s : State) : Host.Outcome State Fault Refusal :=
  sameWidth vm vd vs2 (.vec vs1) (fun w => plain (sraElem w)) s

/-- `vsra.vx` (43_alu R618). -/
def execVsraVx (vm : Bool) (vd vs2 rs1 : Nat) (s : State) : Host.Outcome State Fault Refusal :=
  sameWidth vm vd vs2 (.scalar rs1) (fun w => plain (sraElem w)) s

/-- `vsra.vi` (43_alu R618). -/
def execVsraVi (vm : Bool) (vd vs2 imm5 : Nat) (s : State) : Host.Outcome State Fault Refusal :=
  sameWidth vm vd vs2 (.uimm imm5) (fun w => plain (sraElem w)) s

/-- `vminu.vv` (43_alu R619). -/
def execVminuVv (vm : Bool) (vd vs2 vs1 : Nat) (s : State) : Host.Outcome State Fault Refusal :=
  sameWidth vm vd vs2 (.vec vs1) (fun w => plain (minuElem w)) s

/-- `vminu.vx` (43_alu R619). -/
def execVminuVx (vm : Bool) (vd vs2 rs1 : Nat) (s : State) : Host.Outcome State Fault Refusal :=
  sameWidth vm vd vs2 (.scalar rs1) (fun w => plain (minuElem w)) s

/-- `vmin.vv` (43_alu R620). -/
def execVminVv (vm : Bool) (vd vs2 vs1 : Nat) (s : State) : Host.Outcome State Fault Refusal :=
  sameWidth vm vd vs2 (.vec vs1) (fun w => plain (minElem w)) s

/-- `vmin.vx` (43_alu R620). -/
def execVminVx (vm : Bool) (vd vs2 rs1 : Nat) (s : State) : Host.Outcome State Fault Refusal :=
  sameWidth vm vd vs2 (.scalar rs1) (fun w => plain (minElem w)) s

/-- `vmaxu.vv` (43_alu R621). -/
def execVmaxuVv (vm : Bool) (vd vs2 vs1 : Nat) (s : State) : Host.Outcome State Fault Refusal :=
  sameWidth vm vd vs2 (.vec vs1) (fun w => plain (maxuElem w)) s

/-- `vmaxu.vx` (43_alu R621). -/
def execVmaxuVx (vm : Bool) (vd vs2 rs1 : Nat) (s : State) : Host.Outcome State Fault Refusal :=
  sameWidth vm vd vs2 (.scalar rs1) (fun w => plain (maxuElem w)) s

/-- `vmax.vv` (43_alu R622). -/
def execVmaxVv (vm : Bool) (vd vs2 vs1 : Nat) (s : State) : Host.Outcome State Fault Refusal :=
  sameWidth vm vd vs2 (.vec vs1) (fun w => plain (maxElem w)) s

/-- `vmax.vx` (43_alu R622). -/
def execVmaxVx (vm : Bool) (vd vs2 rs1 : Nat) (s : State) : Host.Outcome State Fault Refusal :=
  sameWidth vm vd vs2 (.scalar rs1) (fun w => plain (maxElem w)) s

/-- `vmul.vv` (43_alu R623). -/
def execVmulVv (vm : Bool) (vd vs2 vs1 : Nat) (s : State) : Host.Outcome State Fault Refusal :=
  sameWidth vm vd vs2 (.vec vs1) (fun w => plain (mulElem w)) s

/-- `vmul.vx` (43_alu R623). -/
def execVmulVx (vm : Bool) (vd vs2 rs1 : Nat) (s : State) : Host.Outcome State Fault Refusal :=
  sameWidth vm vd vs2 (.scalar rs1) (fun w => plain (mulElem w)) s

/-- `vmacc.vv` (43_alu R624). -/
def execVmaccVv (vm : Bool) (vd vs2 vs1 : Nat) (s : State) : Host.Outcome State Fault Refusal :=
  multiplyAdd vm vd vs2 (.vec vs1) maccElem s

/-- `vmacc.vx` (43_alu R624). -/
def execVmaccVx (vm : Bool) (vd vs2 rs1 : Nat) (s : State) : Host.Outcome State Fault Refusal :=
  multiplyAdd vm vd vs2 (.scalar rs1) maccElem s

/-- `vnmsac.vv` (43_alu R625). -/
def execVnmsacVv (vm : Bool) (vd vs2 vs1 : Nat) (s : State) : Host.Outcome State Fault Refusal :=
  multiplyAdd vm vd vs2 (.vec vs1) nmsacElem s

/-- `vnmsac.vx` (43_alu R625). -/
def execVnmsacVx (vm : Bool) (vd vs2 rs1 : Nat) (s : State) : Host.Outcome State Fault Refusal :=
  multiplyAdd vm vd vs2 (.scalar rs1) nmsacElem s

/-- `vmadd.vv` (43_alu R626). -/
def execVmaddVv (vm : Bool) (vd vs2 vs1 : Nat) (s : State) : Host.Outcome State Fault Refusal :=
  multiplyAdd vm vd vs2 (.vec vs1) maddElem s

/-- `vmadd.vx` (43_alu R626). -/
def execVmaddVx (vm : Bool) (vd vs2 rs1 : Nat) (s : State) : Host.Outcome State Fault Refusal :=
  multiplyAdd vm vd vs2 (.scalar rs1) maddElem s

/-- `vnmsub.vv` (43_alu R627). -/
def execVnmsubVv (vm : Bool) (vd vs2 vs1 : Nat) (s : State) : Host.Outcome State Fault Refusal :=
  multiplyAdd vm vd vs2 (.vec vs1) nmsubElem s

/-- `vnmsub.vx` (43_alu R627). -/
def execVnmsubVx (vm : Bool) (vd vs2 rs1 : Nat) (s : State) : Host.Outcome State Fault Refusal :=
  multiplyAdd vm vd vs2 (.scalar rs1) nmsubElem s

/-- `vadc.vvm` (43_alu R628). -/
def execVadcVvm (vd vs2 vs1 : Nat) (s : State) : Host.Outcome State Fault Refusal :=
  withCarry vd vs2 (.vec vs1) adcElem s

/-- `vadc.vxm` (43_alu R628). -/
def execVadcVxm (vd vs2 rs1 : Nat) (s : State) : Host.Outcome State Fault Refusal :=
  withCarry vd vs2 (.scalar rs1) adcElem s

/-- `vadc.vim` (43_alu R628). -/
def execVadcVim (vd vs2 imm5 : Nat) (s : State) : Host.Outcome State Fault Refusal :=
  withCarry vd vs2 (.simm imm5) adcElem s

/-- `vsbc.vvm` (43_alu R629). -/
def execVsbcVvm (vd vs2 vs1 : Nat) (s : State) : Host.Outcome State Fault Refusal :=
  withCarry vd vs2 (.vec vs1) sbcElem s

/-- `vsbc.vxm` (43_alu R629). -/
def execVsbcVxm (vd vs2 rs1 : Nat) (s : State) : Host.Outcome State Fault Refusal :=
  withCarry vd vs2 (.scalar rs1) sbcElem s

end Sys2Proof.Machine
end

