-- ==== Sys2Proof/Machine/Widening.lean ====
section
/-! DEFINITION. Widening, narrowing and extension operations (44_widening_narrowing). `w` is SEW and the wide width is `2 * w`. -/

namespace Sys2Proof.Machine

/-- `vwaddu` with two narrow operands, on one element (44 R710). -/
def wadduElem (w : Nat) (op2 op1 : BitVec w) : BitVec (2 * w) :=
  trunc (2 * w) ((op2.toNat : Int) + op1.toNat)

/-- `vwadd` with two narrow operands, on one element (44 R711). -/
def waddElem (w : Nat) (op2 op1 : BitVec w) : BitVec (2 * w) :=
  trunc (2 * w) (op2.toInt + op1.toInt)

/-- `vwsubu` with two narrow operands, on one element (44 R712). -/
def wsubuElem (w : Nat) (op2 op1 : BitVec w) : BitVec (2 * w) :=
  trunc (2 * w) ((op2.toNat : Int) - op1.toNat)

/-- `vwsub` with two narrow operands, on one element (44 R713). -/
def wsubElem (w : Nat) (op2 op1 : BitVec w) : BitVec (2 * w) :=
  trunc (2 * w) (op2.toInt - op1.toInt)

/-- `vwmulu` with two narrow operands, on one element (44 R718). -/
def wmuluElem (w : Nat) (op2 op1 : BitVec w) : BitVec (2 * w) :=
  trunc (2 * w) ((op2.toNat : Int) * op1.toNat)

/-- `vwmul` with two narrow operands, on one element (44 R719). -/
def wmulElem (w : Nat) (op2 op1 : BitVec w) : BitVec (2 * w) :=
  trunc (2 * w) (op2.toInt * op1.toInt)

/-- `vwmulsu` with two narrow operands, on one element (44 R720). -/
def wmulsuElem (w : Nat) (op2 op1 : BitVec w) : BitVec (2 * w) :=
  trunc (2 * w) (op2.toInt * op1.toNat)

/-- `vwaddu` with a wide `vs2`, on one element (44 R714). -/
def wadduWElem (w : Nat) (op2 : BitVec (2 * w)) (op1 : BitVec w) : BitVec (2 * w) :=
  trunc (2 * w) ((op2.toNat : Int) + op1.toNat)

/-- `vwadd` with a wide `vs2`, on one element (44 R715). -/
def waddWElem (w : Nat) (op2 : BitVec (2 * w)) (op1 : BitVec w) : BitVec (2 * w) :=
  trunc (2 * w) (op2.toInt + op1.toInt)

/-- `vwsubu` with a wide `vs2`, on one element (44 R716). -/
def wsubuWElem (w : Nat) (op2 : BitVec (2 * w)) (op1 : BitVec w) : BitVec (2 * w) :=
  trunc (2 * w) ((op2.toNat : Int) - op1.toNat)

/-- `vwsub` with a wide `vs2`, on one element (44 R717). -/
def wsubWElem (w : Nat) (op2 : BitVec (2 * w)) (op1 : BitVec w) : BitVec (2 * w) :=
  trunc (2 * w) (op2.toInt - op1.toInt)

/-- `vwmaccu` on one element (44 R721). -/
def wmaccuElem (w : Nat) (op1 op2 : BitVec w) (acc : BitVec (2 * w)) : BitVec (2 * w) :=
  trunc (2 * w) ((op1.toNat : Int) * op2.toNat + acc.toNat)

/-- `vwmacc` on one element (44 R722). -/
def wmaccElem (w : Nat) (op1 op2 : BitVec w) (acc : BitVec (2 * w)) : BitVec (2 * w) :=
  trunc (2 * w) (op1.toInt * op2.toInt + acc.toInt)

/-- `vwmaccsu` on one element (44 R723). -/
def wmaccsuElem (w : Nat) (op1 op2 : BitVec w) (acc : BitVec (2 * w)) : BitVec (2 * w) :=
  trunc (2 * w) (op1.toInt * op2.toNat + acc.toInt)

/-- `vwmaccus` on one element (44 R724). -/
def wmaccusElem (w : Nat) (op1 op2 : BitVec w) (acc : BitVec (2 * w)) : BitVec (2 * w) :=
  trunc (2 * w) (op1.toNat * op2.toInt + acc.toInt)

/-- `vnsrl` on one element (44 R730). -/
def nsrlElem (w : Nat) (op2 : BitVec (2 * w)) (op1 : BitVec w) : BitVec w :=
  trunc w ((op2.toNat : Int) / 2 ^ shiftAmount (2 * w) op1)

/-- `vnsra` on one element (44 R731). -/
def nsraElem (w : Nat) (op2 : BitVec (2 * w)) (op1 : BitVec w) : BitVec w :=
  trunc w (op2.toInt / 2 ^ shiftAmount (2 * w) op1)

/-- `vzext` on one element (44 R740 to R742). -/
def zextElem (w2 w : Nat) (op2 : BitVec w2) : BitVec w :=
  BitVec.setWidth w op2

/-- `vsext` on one element (44 R743 to R745). -/
def sextElem (w2 w : Nat) (op2 : BitVec w2) : BitVec w :=
  BitVec.signExtend w op2

/-- `vwaddu.vv` (44 R710). -/
def execVwadduVv (vm : Bool) (vd vs2 vs1 : Nat) (s : State) : Host.Outcome State Fault Refusal :=
  widening vm vd vs2 (.vec vs1) wadduElem s

/-- `vwaddu.vx` (44 R710). -/
def execVwadduVx (vm : Bool) (vd vs2 rs1 : Nat) (s : State) : Host.Outcome State Fault Refusal :=
  widening vm vd vs2 (.scalar rs1) wadduElem s

/-- `vwadd.vv` (44 R711). -/
def execVwaddVv (vm : Bool) (vd vs2 vs1 : Nat) (s : State) : Host.Outcome State Fault Refusal :=
  widening vm vd vs2 (.vec vs1) waddElem s

/-- `vwadd.vx` (44 R711). -/
def execVwaddVx (vm : Bool) (vd vs2 rs1 : Nat) (s : State) : Host.Outcome State Fault Refusal :=
  widening vm vd vs2 (.scalar rs1) waddElem s

/-- `vwsubu.vv` (44 R712). -/
def execVwsubuVv (vm : Bool) (vd vs2 vs1 : Nat) (s : State) : Host.Outcome State Fault Refusal :=
  widening vm vd vs2 (.vec vs1) wsubuElem s

/-- `vwsubu.vx` (44 R712). -/
def execVwsubuVx (vm : Bool) (vd vs2 rs1 : Nat) (s : State) : Host.Outcome State Fault Refusal :=
  widening vm vd vs2 (.scalar rs1) wsubuElem s

/-- `vwsub.vv` (44 R713). -/
def execVwsubVv (vm : Bool) (vd vs2 vs1 : Nat) (s : State) : Host.Outcome State Fault Refusal :=
  widening vm vd vs2 (.vec vs1) wsubElem s

/-- `vwsub.vx` (44 R713). -/
def execVwsubVx (vm : Bool) (vd vs2 rs1 : Nat) (s : State) : Host.Outcome State Fault Refusal :=
  widening vm vd vs2 (.scalar rs1) wsubElem s

/-- `vwmulu.vv` (44 R718). -/
def execVwmuluVv (vm : Bool) (vd vs2 vs1 : Nat) (s : State) : Host.Outcome State Fault Refusal :=
  widening vm vd vs2 (.vec vs1) wmuluElem s

/-- `vwmulu.vx` (44 R718). -/
def execVwmuluVx (vm : Bool) (vd vs2 rs1 : Nat) (s : State) : Host.Outcome State Fault Refusal :=
  widening vm vd vs2 (.scalar rs1) wmuluElem s

/-- `vwmul.vv` (44 R719). -/
def execVwmulVv (vm : Bool) (vd vs2 vs1 : Nat) (s : State) : Host.Outcome State Fault Refusal :=
  widening vm vd vs2 (.vec vs1) wmulElem s

/-- `vwmul.vx` (44 R719). -/
def execVwmulVx (vm : Bool) (vd vs2 rs1 : Nat) (s : State) : Host.Outcome State Fault Refusal :=
  widening vm vd vs2 (.scalar rs1) wmulElem s

/-- `vwmulsu.vv` (44 R720). -/
def execVwmulsuVv (vm : Bool) (vd vs2 vs1 : Nat) (s : State) : Host.Outcome State Fault Refusal :=
  widening vm vd vs2 (.vec vs1) wmulsuElem s

/-- `vwmulsu.vx` (44 R720). -/
def execVwmulsuVx (vm : Bool) (vd vs2 rs1 : Nat) (s : State) : Host.Outcome State Fault Refusal :=
  widening vm vd vs2 (.scalar rs1) wmulsuElem s

/-- `vwaddu.wv` (44 R714). -/
def execVwadduWv (vm : Bool) (vd vs2 vs1 : Nat) (s : State) : Host.Outcome State Fault Refusal :=
  wideningWide vm vd vs2 (.vec vs1) wadduWElem s

/-- `vwaddu.wx` (44 R714). -/
def execVwadduWx (vm : Bool) (vd vs2 rs1 : Nat) (s : State) : Host.Outcome State Fault Refusal :=
  wideningWide vm vd vs2 (.scalar rs1) wadduWElem s

/-- `vwadd.wv` (44 R715). -/
def execVwaddWv (vm : Bool) (vd vs2 vs1 : Nat) (s : State) : Host.Outcome State Fault Refusal :=
  wideningWide vm vd vs2 (.vec vs1) waddWElem s

/-- `vwadd.wx` (44 R715). -/
def execVwaddWx (vm : Bool) (vd vs2 rs1 : Nat) (s : State) : Host.Outcome State Fault Refusal :=
  wideningWide vm vd vs2 (.scalar rs1) waddWElem s

/-- `vwsubu.wv` (44 R716). -/
def execVwsubuWv (vm : Bool) (vd vs2 vs1 : Nat) (s : State) : Host.Outcome State Fault Refusal :=
  wideningWide vm vd vs2 (.vec vs1) wsubuWElem s

/-- `vwsubu.wx` (44 R716). -/
def execVwsubuWx (vm : Bool) (vd vs2 rs1 : Nat) (s : State) : Host.Outcome State Fault Refusal :=
  wideningWide vm vd vs2 (.scalar rs1) wsubuWElem s

/-- `vwsub.wv` (44 R717). -/
def execVwsubWv (vm : Bool) (vd vs2 vs1 : Nat) (s : State) : Host.Outcome State Fault Refusal :=
  wideningWide vm vd vs2 (.vec vs1) wsubWElem s

/-- `vwsub.wx` (44 R717). -/
def execVwsubWx (vm : Bool) (vd vs2 rs1 : Nat) (s : State) : Host.Outcome State Fault Refusal :=
  wideningWide vm vd vs2 (.scalar rs1) wsubWElem s

/-- `vwmaccu.vv` (44 R721). -/
def execVwmaccuVv (vm : Bool) (vd vs2 vs1 : Nat) (s : State) : Host.Outcome State Fault Refusal :=
  wideningMultiplyAdd vm vd vs2 (.vec vs1) wmaccuElem s

/-- `vwmaccu.vx` (44 R721). -/
def execVwmaccuVx (vm : Bool) (vd vs2 rs1 : Nat) (s : State) : Host.Outcome State Fault Refusal :=
  wideningMultiplyAdd vm vd vs2 (.scalar rs1) wmaccuElem s

/-- `vwmacc.vv` (44 R722). -/
def execVwmaccVv (vm : Bool) (vd vs2 vs1 : Nat) (s : State) : Host.Outcome State Fault Refusal :=
  wideningMultiplyAdd vm vd vs2 (.vec vs1) wmaccElem s

/-- `vwmacc.vx` (44 R722). -/
def execVwmaccVx (vm : Bool) (vd vs2 rs1 : Nat) (s : State) : Host.Outcome State Fault Refusal :=
  wideningMultiplyAdd vm vd vs2 (.scalar rs1) wmaccElem s

/-- `vwmaccsu.vv` (44 R723). -/
def execVwmaccsuVv (vm : Bool) (vd vs2 vs1 : Nat) (s : State) : Host.Outcome State Fault Refusal :=
  wideningMultiplyAdd vm vd vs2 (.vec vs1) wmaccsuElem s

/-- `vwmaccsu.vx` (44 R723). -/
def execVwmaccsuVx (vm : Bool) (vd vs2 rs1 : Nat) (s : State) : Host.Outcome State Fault Refusal :=
  wideningMultiplyAdd vm vd vs2 (.scalar rs1) wmaccsuElem s

/-- `vwmaccus.vx` (44 R724). -/
def execVwmaccusVx (vm : Bool) (vd vs2 rs1 : Nat) (s : State) : Host.Outcome State Fault Refusal :=
  wideningMultiplyAdd vm vd vs2 (.scalar rs1) wmaccusElem s

/-- `vnsrl.wv` (44 R730). -/
def execVnsrlWv (vm : Bool) (vd vs2 vs1 : Nat) (s : State) : Host.Outcome State Fault Refusal :=
  narrowing vm vd vs2 (.vec vs1) (fun w => plain (nsrlElem w)) s

/-- `vnsrl.wx` (44 R730). -/
def execVnsrlWx (vm : Bool) (vd vs2 rs1 : Nat) (s : State) : Host.Outcome State Fault Refusal :=
  narrowing vm vd vs2 (.scalar rs1) (fun w => plain (nsrlElem w)) s

/-- `vnsrl.wi` (44 R730). -/
def execVnsrlWi (vm : Bool) (vd vs2 imm5 : Nat) (s : State) : Host.Outcome State Fault Refusal :=
  narrowing vm vd vs2 (.uimm imm5) (fun w => plain (nsrlElem w)) s

/-- `vnsra.wv` (44 R731). -/
def execVnsraWv (vm : Bool) (vd vs2 vs1 : Nat) (s : State) : Host.Outcome State Fault Refusal :=
  narrowing vm vd vs2 (.vec vs1) (fun w => plain (nsraElem w)) s

/-- `vnsra.wx` (44 R731). -/
def execVnsraWx (vm : Bool) (vd vs2 rs1 : Nat) (s : State) : Host.Outcome State Fault Refusal :=
  narrowing vm vd vs2 (.scalar rs1) (fun w => plain (nsraElem w)) s

/-- `vnsra.wi` (44 R731). -/
def execVnsraWi (vm : Bool) (vd vs2 imm5 : Nat) (s : State) : Host.Outcome State Fault Refusal :=
  narrowing vm vd vs2 (.uimm imm5) (fun w => plain (nsraElem w)) s

/-- `vzext.vf2` (44 R740). -/
def execVzextVf2 (vm : Bool) (vd vs2 : Nat) (s : State) : Host.Outcome State Fault Refusal :=
  extension vm vd vs2 1 zextElem s

/-- `vzext.vf4` (44 R741). -/
def execVzextVf4 (vm : Bool) (vd vs2 : Nat) (s : State) : Host.Outcome State Fault Refusal :=
  extension vm vd vs2 2 zextElem s

/-- `vzext.vf8` (44 R742). -/
def execVzextVf8 (vm : Bool) (vd vs2 : Nat) (s : State) : Host.Outcome State Fault Refusal :=
  extension vm vd vs2 3 zextElem s

/-- `vsext.vf2` (44 R743). -/
def execVsextVf2 (vm : Bool) (vd vs2 : Nat) (s : State) : Host.Outcome State Fault Refusal :=
  extension vm vd vs2 1 sextElem s

/-- `vsext.vf4` (44 R744). -/
def execVsextVf4 (vm : Bool) (vd vs2 : Nat) (s : State) : Host.Outcome State Fault Refusal :=
  extension vm vd vs2 2 sextElem s

/-- `vsext.vf8` (44 R745). -/
def execVsextVf8 (vm : Bool) (vd vs2 : Nat) (s : State) : Host.Outcome State Fault Refusal :=
  extension vm vd vs2 3 sextElem s

end Sys2Proof.Machine
end

