-- ==== Sys2Proof/Machine/Dispatch.lean ====
section
/-! DEFINITION. Every instruction goes to its meaning: one arm per constructor. -/

namespace Sys2Proof.Machine

def exec (i : Instr) (s : State) : Host.Outcome State Fault Refusal :=
  match i with
  | .vadd_vv vm vd vs2 vs1 => Sys2Proof.Machine.execVaddVv vm vd vs2 vs1 s
  | .vadd_vx vm vd vs2 rs1 => Sys2Proof.Machine.execVaddVx vm vd vs2 rs1 s
  | .vadd_vi vm vd vs2 imm5 => Sys2Proof.Machine.execVaddVi vm vd vs2 imm5 s
  | .vsub_vv vm vd vs2 vs1 => Sys2Proof.Machine.execVsubVv vm vd vs2 vs1 s
  | .vsub_vx vm vd vs2 rs1 => Sys2Proof.Machine.execVsubVx vm vd vs2 rs1 s
  | .vrsub_vx vm vd vs2 rs1 => Sys2Proof.Machine.execVrsubVx vm vd vs2 rs1 s
  | .vrsub_vi vm vd vs2 imm5 => Sys2Proof.Machine.execVrsubVi vm vd vs2 imm5 s
  | .vminu_vv vm vd vs2 vs1 => Sys2Proof.Machine.execVminuVv vm vd vs2 vs1 s
  | .vminu_vx vm vd vs2 rs1 => Sys2Proof.Machine.execVminuVx vm vd vs2 rs1 s
  | .vmin_vv vm vd vs2 vs1 => Sys2Proof.Machine.execVminVv vm vd vs2 vs1 s
  | .vmin_vx vm vd vs2 rs1 => Sys2Proof.Machine.execVminVx vm vd vs2 rs1 s
  | .vmaxu_vv vm vd vs2 vs1 => Sys2Proof.Machine.execVmaxuVv vm vd vs2 vs1 s
  | .vmaxu_vx vm vd vs2 rs1 => Sys2Proof.Machine.execVmaxuVx vm vd vs2 rs1 s
  | .vmax_vv vm vd vs2 vs1 => Sys2Proof.Machine.execVmaxVv vm vd vs2 vs1 s
  | .vmax_vx vm vd vs2 rs1 => Sys2Proof.Machine.execVmaxVx vm vd vs2 rs1 s
  | .vand_vv vm vd vs2 vs1 => Sys2Proof.Machine.execVandVv vm vd vs2 vs1 s
  | .vand_vx vm vd vs2 rs1 => Sys2Proof.Machine.execVandVx vm vd vs2 rs1 s
  | .vand_vi vm vd vs2 imm5 => Sys2Proof.Machine.execVandVi vm vd vs2 imm5 s
  | .vor_vv vm vd vs2 vs1 => Sys2Proof.Machine.execVorVv vm vd vs2 vs1 s
  | .vor_vx vm vd vs2 rs1 => Sys2Proof.Machine.execVorVx vm vd vs2 rs1 s
  | .vor_vi vm vd vs2 imm5 => Sys2Proof.Machine.execVorVi vm vd vs2 imm5 s
  | .vxor_vv vm vd vs2 vs1 => Sys2Proof.Machine.execVxorVv vm vd vs2 vs1 s
  | .vxor_vx vm vd vs2 rs1 => Sys2Proof.Machine.execVxorVx vm vd vs2 rs1 s
  | .vxor_vi vm vd vs2 imm5 => Sys2Proof.Machine.execVxorVi vm vd vs2 imm5 s
  | .vrgather_vv vm vd vs2 vs1 => Sys2Proof.Machine.execVrgatherVv vm vd vs2 vs1 s
  | .vrgather_vx vm vd vs2 rs1 => Sys2Proof.Machine.execVrgatherVx vm vd vs2 rs1 s
  | .vrgather_vi vm vd vs2 imm5 => Sys2Proof.Machine.execVrgatherVi vm vd vs2 imm5 s
  | .vslideup_vx vm vd vs2 rs1 => Sys2Proof.Machine.execVslideupVx vm vd vs2 rs1 s
  | .vslideup_vi vm vd vs2 imm5 => Sys2Proof.Machine.execVslideupVi vm vd vs2 imm5 s
  | .vslidedown_vx vm vd vs2 rs1 => Sys2Proof.Machine.execVslidedownVx vm vd vs2 rs1 s
  | .vslidedown_vi vm vd vs2 imm5 => Sys2Proof.Machine.execVslidedownVi vm vd vs2 imm5 s
  | .vadc_vvm vd vs2 vs1 => Sys2Proof.Machine.execVadcVvm vd vs2 vs1 s
  | .vadc_vxm vd vs2 rs1 => Sys2Proof.Machine.execVadcVxm vd vs2 rs1 s
  | .vadc_vim vd vs2 imm5 => Sys2Proof.Machine.execVadcVim vd vs2 imm5 s
  | .vmadc_vvm vd vs2 vs1 => Sys2Proof.Machine.execVmadcVvm vd vs2 vs1 s
  | .vmadc_vxm vd vs2 rs1 => Sys2Proof.Machine.execVmadcVxm vd vs2 rs1 s
  | .vmadc_vim vd vs2 imm5 => Sys2Proof.Machine.execVmadcVim vd vs2 imm5 s
  | .vmadc_vv vd vs2 vs1 => Sys2Proof.Machine.execVmadcVv vd vs2 vs1 s
  | .vmadc_vx vd vs2 rs1 => Sys2Proof.Machine.execVmadcVx vd vs2 rs1 s
  | .vmadc_vi vd vs2 imm5 => Sys2Proof.Machine.execVmadcVi vd vs2 imm5 s
  | .vsbc_vvm vd vs2 vs1 => Sys2Proof.Machine.execVsbcVvm vd vs2 vs1 s
  | .vsbc_vxm vd vs2 rs1 => Sys2Proof.Machine.execVsbcVxm vd vs2 rs1 s
  | .vmsbc_vvm vd vs2 vs1 => Sys2Proof.Machine.execVmsbcVvm vd vs2 vs1 s
  | .vmsbc_vxm vd vs2 rs1 => Sys2Proof.Machine.execVmsbcVxm vd vs2 rs1 s
  | .vmsbc_vv vd vs2 vs1 => Sys2Proof.Machine.execVmsbcVv vd vs2 vs1 s
  | .vmsbc_vx vd vs2 rs1 => Sys2Proof.Machine.execVmsbcVx vd vs2 rs1 s
  | .vmseq_vv vm vd vs2 vs1 => Sys2Proof.Machine.execVmseqVv vm vd vs2 vs1 s
  | .vmseq_vx vm vd vs2 rs1 => Sys2Proof.Machine.execVmseqVx vm vd vs2 rs1 s
  | .vmseq_vi vm vd vs2 imm5 => Sys2Proof.Machine.execVmseqVi vm vd vs2 imm5 s
  | .vmsne_vv vm vd vs2 vs1 => Sys2Proof.Machine.execVmsneVv vm vd vs2 vs1 s
  | .vmsne_vx vm vd vs2 rs1 => Sys2Proof.Machine.execVmsneVx vm vd vs2 rs1 s
  | .vmsne_vi vm vd vs2 imm5 => Sys2Proof.Machine.execVmsneVi vm vd vs2 imm5 s
  | .vmsltu_vv vm vd vs2 vs1 => Sys2Proof.Machine.execVmsltuVv vm vd vs2 vs1 s
  | .vmsltu_vx vm vd vs2 rs1 => Sys2Proof.Machine.execVmsltuVx vm vd vs2 rs1 s
  | .vmslt_vv vm vd vs2 vs1 => Sys2Proof.Machine.execVmsltVv vm vd vs2 vs1 s
  | .vmslt_vx vm vd vs2 rs1 => Sys2Proof.Machine.execVmsltVx vm vd vs2 rs1 s
  | .vmsleu_vv vm vd vs2 vs1 => Sys2Proof.Machine.execVmsleuVv vm vd vs2 vs1 s
  | .vmsleu_vx vm vd vs2 rs1 => Sys2Proof.Machine.execVmsleuVx vm vd vs2 rs1 s
  | .vmsleu_vi vm vd vs2 imm5 => Sys2Proof.Machine.execVmsleuVi vm vd vs2 imm5 s
  | .vmsle_vv vm vd vs2 vs1 => Sys2Proof.Machine.execVmsleVv vm vd vs2 vs1 s
  | .vmsle_vx vm vd vs2 rs1 => Sys2Proof.Machine.execVmsleVx vm vd vs2 rs1 s
  | .vmsle_vi vm vd vs2 imm5 => Sys2Proof.Machine.execVmsleVi vm vd vs2 imm5 s
  | .vmsgtu_vx vm vd vs2 rs1 => Sys2Proof.Machine.execVmsgtuVx vm vd vs2 rs1 s
  | .vmsgtu_vi vm vd vs2 imm5 => Sys2Proof.Machine.execVmsgtuVi vm vd vs2 imm5 s
  | .vmsgt_vx vm vd vs2 rs1 => Sys2Proof.Machine.execVmsgtVx vm vd vs2 rs1 s
  | .vmsgt_vi vm vd vs2 imm5 => Sys2Proof.Machine.execVmsgtVi vm vd vs2 imm5 s
  | .vsaddu_vv vm vd vs2 vs1 => Sys2Proof.Machine.execVsadduVv vm vd vs2 vs1 s
  | .vsaddu_vx vm vd vs2 rs1 => Sys2Proof.Machine.execVsadduVx vm vd vs2 rs1 s
  | .vsaddu_vi vm vd vs2 imm5 => Sys2Proof.Machine.execVsadduVi vm vd vs2 imm5 s
  | .vsadd_vv vm vd vs2 vs1 => Sys2Proof.Machine.execVsaddVv vm vd vs2 vs1 s
  | .vsadd_vx vm vd vs2 rs1 => Sys2Proof.Machine.execVsaddVx vm vd vs2 rs1 s
  | .vsadd_vi vm vd vs2 imm5 => Sys2Proof.Machine.execVsaddVi vm vd vs2 imm5 s
  | .vssubu_vv vm vd vs2 vs1 => Sys2Proof.Machine.execVssubuVv vm vd vs2 vs1 s
  | .vssubu_vx vm vd vs2 rs1 => Sys2Proof.Machine.execVssubuVx vm vd vs2 rs1 s
  | .vssub_vv vm vd vs2 vs1 => Sys2Proof.Machine.execVssubVv vm vd vs2 vs1 s
  | .vssub_vx vm vd vs2 rs1 => Sys2Proof.Machine.execVssubVx vm vd vs2 rs1 s
  | .vsll_vv vm vd vs2 vs1 => Sys2Proof.Machine.execVsllVv vm vd vs2 vs1 s
  | .vsll_vx vm vd vs2 rs1 => Sys2Proof.Machine.execVsllVx vm vd vs2 rs1 s
  | .vsll_vi vm vd vs2 imm5 => Sys2Proof.Machine.execVsllVi vm vd vs2 imm5 s
  | .vsmul_vv vm vd vs2 vs1 => Sys2Proof.Machine.execVsmulVv vm vd vs2 vs1 s
  | .vsmul_vx vm vd vs2 rs1 => Sys2Proof.Machine.execVsmulVx vm vd vs2 rs1 s
  | .vsrl_vv vm vd vs2 vs1 => Sys2Proof.Machine.execVsrlVv vm vd vs2 vs1 s
  | .vsrl_vx vm vd vs2 rs1 => Sys2Proof.Machine.execVsrlVx vm vd vs2 rs1 s
  | .vsrl_vi vm vd vs2 imm5 => Sys2Proof.Machine.execVsrlVi vm vd vs2 imm5 s
  | .vsra_vv vm vd vs2 vs1 => Sys2Proof.Machine.execVsraVv vm vd vs2 vs1 s
  | .vsra_vx vm vd vs2 rs1 => Sys2Proof.Machine.execVsraVx vm vd vs2 rs1 s
  | .vsra_vi vm vd vs2 imm5 => Sys2Proof.Machine.execVsraVi vm vd vs2 imm5 s
  | .vssrl_vv vm vd vs2 vs1 => Sys2Proof.Machine.execVssrlVv vm vd vs2 vs1 s
  | .vssrl_vx vm vd vs2 rs1 => Sys2Proof.Machine.execVssrlVx vm vd vs2 rs1 s
  | .vssrl_vi vm vd vs2 imm5 => Sys2Proof.Machine.execVssrlVi vm vd vs2 imm5 s
  | .vssra_vv vm vd vs2 vs1 => Sys2Proof.Machine.execVssraVv vm vd vs2 vs1 s
  | .vssra_vx vm vd vs2 rs1 => Sys2Proof.Machine.execVssraVx vm vd vs2 rs1 s
  | .vssra_vi vm vd vs2 imm5 => Sys2Proof.Machine.execVssraVi vm vd vs2 imm5 s
  | .vnsrl_wv vm vd vs2 vs1 => Sys2Proof.Machine.execVnsrlWv vm vd vs2 vs1 s
  | .vnsrl_wx vm vd vs2 rs1 => Sys2Proof.Machine.execVnsrlWx vm vd vs2 rs1 s
  | .vnsrl_wi vm vd vs2 imm5 => Sys2Proof.Machine.execVnsrlWi vm vd vs2 imm5 s
  | .vnsra_wv vm vd vs2 vs1 => Sys2Proof.Machine.execVnsraWv vm vd vs2 vs1 s
  | .vnsra_wx vm vd vs2 rs1 => Sys2Proof.Machine.execVnsraWx vm vd vs2 rs1 s
  | .vnsra_wi vm vd vs2 imm5 => Sys2Proof.Machine.execVnsraWi vm vd vs2 imm5 s
  | .vnclipu_wv vm vd vs2 vs1 => Sys2Proof.Machine.execVnclipuWv vm vd vs2 vs1 s
  | .vnclipu_wx vm vd vs2 rs1 => Sys2Proof.Machine.execVnclipuWx vm vd vs2 rs1 s
  | .vnclipu_wi vm vd vs2 imm5 => Sys2Proof.Machine.execVnclipuWi vm vd vs2 imm5 s
  | .vnclip_wv vm vd vs2 vs1 => Sys2Proof.Machine.execVnclipWv vm vd vs2 vs1 s
  | .vnclip_wx vm vd vs2 rs1 => Sys2Proof.Machine.execVnclipWx vm vd vs2 rs1 s
  | .vnclip_wi vm vd vs2 imm5 => Sys2Proof.Machine.execVnclipWi vm vd vs2 imm5 s
  | .vwredsumu_vs vm vd vs2 vs1 => Sys2Proof.Machine.execVwredsumuVs vm vd vs2 vs1 s
  | .vwredsum_vs vm vd vs2 vs1 => Sys2Proof.Machine.execVwredsumVs vm vd vs2 vs1 s
  | .vredsum_vs vm vd vs2 vs1 => Sys2Proof.Machine.execVredsumVs vm vd vs2 vs1 s
  | .vredand_vs vm vd vs2 vs1 => Sys2Proof.Machine.execVredandVs vm vd vs2 vs1 s
  | .vredor_vs vm vd vs2 vs1 => Sys2Proof.Machine.execVredorVs vm vd vs2 vs1 s
  | .vredxor_vs vm vd vs2 vs1 => Sys2Proof.Machine.execVredxorVs vm vd vs2 vs1 s
  | .vredminu_vs vm vd vs2 vs1 => Sys2Proof.Machine.execVredminuVs vm vd vs2 vs1 s
  | .vredmin_vs vm vd vs2 vs1 => Sys2Proof.Machine.execVredminVs vm vd vs2 vs1 s
  | .vredmaxu_vs vm vd vs2 vs1 => Sys2Proof.Machine.execVredmaxuVs vm vd vs2 vs1 s
  | .vredmax_vs vm vd vs2 vs1 => Sys2Proof.Machine.execVredmaxVs vm vd vs2 vs1 s
  | .vaaddu_vv vm vd vs2 vs1 => Sys2Proof.Machine.execVaadduVv vm vd vs2 vs1 s
  | .vaaddu_vx vm vd vs2 rs1 => Sys2Proof.Machine.execVaadduVx vm vd vs2 rs1 s
  | .vaadd_vv vm vd vs2 vs1 => Sys2Proof.Machine.execVaaddVv vm vd vs2 vs1 s
  | .vaadd_vx vm vd vs2 rs1 => Sys2Proof.Machine.execVaaddVx vm vd vs2 rs1 s
  | .vasubu_vv vm vd vs2 vs1 => Sys2Proof.Machine.execVasubuVv vm vd vs2 vs1 s
  | .vasubu_vx vm vd vs2 rs1 => Sys2Proof.Machine.execVasubuVx vm vd vs2 rs1 s
  | .vasub_vv vm vd vs2 vs1 => Sys2Proof.Machine.execVasubVv vm vd vs2 vs1 s
  | .vasub_vx vm vd vs2 rs1 => Sys2Proof.Machine.execVasubVx vm vd vs2 rs1 s
  | .vslide1up_vx vm vd vs2 rs1 => Sys2Proof.Machine.execVslide1upVx vm vd vs2 rs1 s
  | .vslide1down_vx vm vd vs2 rs1 => Sys2Proof.Machine.execVslide1downVx vm vd vs2 rs1 s
  | .vzext_vf8 vm vd vs2 => Sys2Proof.Machine.execVzextVf8 vm vd vs2 s
  | .vsext_vf8 vm vd vs2 => Sys2Proof.Machine.execVsextVf8 vm vd vs2 s
  | .vzext_vf4 vm vd vs2 => Sys2Proof.Machine.execVzextVf4 vm vd vs2 s
  | .vsext_vf4 vm vd vs2 => Sys2Proof.Machine.execVsextVf4 vm vd vs2 s
  | .vzext_vf2 vm vd vs2 => Sys2Proof.Machine.execVzextVf2 vm vd vs2 s
  | .vsext_vf2 vm vd vs2 => Sys2Proof.Machine.execVsextVf2 vm vd vs2 s
  | .vdivu_vv vm vd vs2 vs1 => Sys2Proof.Machine.execVdivuVv vm vd vs2 vs1 s
  | .vdivu_vx vm vd vs2 rs1 => Sys2Proof.Machine.execVdivuVx vm vd vs2 rs1 s
  | .vdiv_vv vm vd vs2 vs1 => Sys2Proof.Machine.execVdivVv vm vd vs2 vs1 s
  | .vdiv_vx vm vd vs2 rs1 => Sys2Proof.Machine.execVdivVx vm vd vs2 rs1 s
  | .vremu_vv vm vd vs2 vs1 => Sys2Proof.Machine.execVremuVv vm vd vs2 vs1 s
  | .vremu_vx vm vd vs2 rs1 => Sys2Proof.Machine.execVremuVx vm vd vs2 rs1 s
  | .vrem_vv vm vd vs2 vs1 => Sys2Proof.Machine.execVremVv vm vd vs2 vs1 s
  | .vrem_vx vm vd vs2 rs1 => Sys2Proof.Machine.execVremVx vm vd vs2 rs1 s
  | .vmulhu_vv vm vd vs2 vs1 => Sys2Proof.Machine.execVmulhuVv vm vd vs2 vs1 s
  | .vmulhu_vx vm vd vs2 rs1 => Sys2Proof.Machine.execVmulhuVx vm vd vs2 rs1 s
  | .vmul_vv vm vd vs2 vs1 => Sys2Proof.Machine.execVmulVv vm vd vs2 vs1 s
  | .vmul_vx vm vd vs2 rs1 => Sys2Proof.Machine.execVmulVx vm vd vs2 rs1 s
  | .vmulhsu_vv vm vd vs2 vs1 => Sys2Proof.Machine.execVmulhsuVv vm vd vs2 vs1 s
  | .vmulhsu_vx vm vd vs2 rs1 => Sys2Proof.Machine.execVmulhsuVx vm vd vs2 rs1 s
  | .vmulh_vv vm vd vs2 vs1 => Sys2Proof.Machine.execVmulhVv vm vd vs2 vs1 s
  | .vmulh_vx vm vd vs2 rs1 => Sys2Proof.Machine.execVmulhVx vm vd vs2 rs1 s
  | .vmadd_vv vm vd vs2 vs1 => Sys2Proof.Machine.execVmaddVv vm vd vs2 vs1 s
  | .vmadd_vx vm vd vs2 rs1 => Sys2Proof.Machine.execVmaddVx vm vd vs2 rs1 s
  | .vnmsub_vv vm vd vs2 vs1 => Sys2Proof.Machine.execVnmsubVv vm vd vs2 vs1 s
  | .vnmsub_vx vm vd vs2 rs1 => Sys2Proof.Machine.execVnmsubVx vm vd vs2 rs1 s
  | .vmacc_vv vm vd vs2 vs1 => Sys2Proof.Machine.execVmaccVv vm vd vs2 vs1 s
  | .vmacc_vx vm vd vs2 rs1 => Sys2Proof.Machine.execVmaccVx vm vd vs2 rs1 s
  | .vnmsac_vv vm vd vs2 vs1 => Sys2Proof.Machine.execVnmsacVv vm vd vs2 vs1 s
  | .vnmsac_vx vm vd vs2 rs1 => Sys2Proof.Machine.execVnmsacVx vm vd vs2 rs1 s
  | .vwaddu_vv vm vd vs2 vs1 => Sys2Proof.Machine.execVwadduVv vm vd vs2 vs1 s
  | .vwaddu_vx vm vd vs2 rs1 => Sys2Proof.Machine.execVwadduVx vm vd vs2 rs1 s
  | .vwadd_vv vm vd vs2 vs1 => Sys2Proof.Machine.execVwaddVv vm vd vs2 vs1 s
  | .vwadd_vx vm vd vs2 rs1 => Sys2Proof.Machine.execVwaddVx vm vd vs2 rs1 s
  | .vwsubu_vv vm vd vs2 vs1 => Sys2Proof.Machine.execVwsubuVv vm vd vs2 vs1 s
  | .vwsubu_vx vm vd vs2 rs1 => Sys2Proof.Machine.execVwsubuVx vm vd vs2 rs1 s
  | .vwsub_vv vm vd vs2 vs1 => Sys2Proof.Machine.execVwsubVv vm vd vs2 vs1 s
  | .vwsub_vx vm vd vs2 rs1 => Sys2Proof.Machine.execVwsubVx vm vd vs2 rs1 s
  | .vwaddu_wv vm vd vs2 vs1 => Sys2Proof.Machine.execVwadduWv vm vd vs2 vs1 s
  | .vwaddu_wx vm vd vs2 rs1 => Sys2Proof.Machine.execVwadduWx vm vd vs2 rs1 s
  | .vwadd_wv vm vd vs2 vs1 => Sys2Proof.Machine.execVwaddWv vm vd vs2 vs1 s
  | .vwadd_wx vm vd vs2 rs1 => Sys2Proof.Machine.execVwaddWx vm vd vs2 rs1 s
  | .vwsubu_wv vm vd vs2 vs1 => Sys2Proof.Machine.execVwsubuWv vm vd vs2 vs1 s
  | .vwsubu_wx vm vd vs2 rs1 => Sys2Proof.Machine.execVwsubuWx vm vd vs2 rs1 s
  | .vwsub_wv vm vd vs2 vs1 => Sys2Proof.Machine.execVwsubWv vm vd vs2 vs1 s
  | .vwsub_wx vm vd vs2 rs1 => Sys2Proof.Machine.execVwsubWx vm vd vs2 rs1 s
  | .vwmulu_vv vm vd vs2 vs1 => Sys2Proof.Machine.execVwmuluVv vm vd vs2 vs1 s
  | .vwmulu_vx vm vd vs2 rs1 => Sys2Proof.Machine.execVwmuluVx vm vd vs2 rs1 s
  | .vwmulsu_vv vm vd vs2 vs1 => Sys2Proof.Machine.execVwmulsuVv vm vd vs2 vs1 s
  | .vwmulsu_vx vm vd vs2 rs1 => Sys2Proof.Machine.execVwmulsuVx vm vd vs2 rs1 s
  | .vwmul_vv vm vd vs2 vs1 => Sys2Proof.Machine.execVwmulVv vm vd vs2 vs1 s
  | .vwmul_vx vm vd vs2 rs1 => Sys2Proof.Machine.execVwmulVx vm vd vs2 rs1 s
  | .vwmaccu_vv vm vd vs2 vs1 => Sys2Proof.Machine.execVwmaccuVv vm vd vs2 vs1 s
  | .vwmaccu_vx vm vd vs2 rs1 => Sys2Proof.Machine.execVwmaccuVx vm vd vs2 rs1 s
  | .vwmacc_vv vm vd vs2 vs1 => Sys2Proof.Machine.execVwmaccVv vm vd vs2 vs1 s
  | .vwmacc_vx vm vd vs2 rs1 => Sys2Proof.Machine.execVwmaccVx vm vd vs2 rs1 s
  | .vwmaccus_vx vm vd vs2 rs1 => Sys2Proof.Machine.execVwmaccusVx vm vd vs2 rs1 s
  | .vwmaccsu_vv vm vd vs2 vs1 => Sys2Proof.Machine.execVwmaccsuVv vm vd vs2 vs1 s
  | .vwmaccsu_vx vm vd vs2 rs1 => Sys2Proof.Machine.execVwmaccsuVx vm vd vs2 rs1 s
  | .vle8_v vm nf vd rs1 => Sys2Proof.Machine.execVle8V vm nf vd rs1 s
  | .vle8ff_v vm nf vd rs1 => Sys2Proof.Machine.execVle8ffV vm nf vd rs1 s
  | .vlse8_v vm nf vd rs1 rs2 => Sys2Proof.Machine.execVlse8V vm nf vd rs1 rs2 s
  | .vluxei8_v vm nf vd rs1 vs2 => Sys2Proof.Machine.execVluxei8V vm nf vd rs1 vs2 s
  | .vloxei8_v vm nf vd rs1 vs2 => Sys2Proof.Machine.execVloxei8V vm nf vd rs1 vs2 s
  | .vse8_v vm nf vs3 rs1 => Sys2Proof.Machine.execVse8V vm nf vs3 rs1 s
  | .vsse8_v vm nf vs3 rs1 rs2 => Sys2Proof.Machine.execVsse8V vm nf vs3 rs1 rs2 s
  | .vsuxei8_v vm nf vs3 rs1 vs2 => Sys2Proof.Machine.execVsuxei8V vm nf vs3 rs1 vs2 s
  | .vsoxei8_v vm nf vs3 rs1 vs2 => Sys2Proof.Machine.execVsoxei8V vm nf vs3 rs1 vs2 s
  | .vle16_v vm nf vd rs1 => Sys2Proof.Machine.execVle16V vm nf vd rs1 s
  | .vle16ff_v vm nf vd rs1 => Sys2Proof.Machine.execVle16ffV vm nf vd rs1 s
  | .vlse16_v vm nf vd rs1 rs2 => Sys2Proof.Machine.execVlse16V vm nf vd rs1 rs2 s
  | .vluxei16_v vm nf vd rs1 vs2 => Sys2Proof.Machine.execVluxei16V vm nf vd rs1 vs2 s
  | .vloxei16_v vm nf vd rs1 vs2 => Sys2Proof.Machine.execVloxei16V vm nf vd rs1 vs2 s
  | .vse16_v vm nf vs3 rs1 => Sys2Proof.Machine.execVse16V vm nf vs3 rs1 s
  | .vsse16_v vm nf vs3 rs1 rs2 => Sys2Proof.Machine.execVsse16V vm nf vs3 rs1 rs2 s
  | .vsuxei16_v vm nf vs3 rs1 vs2 => Sys2Proof.Machine.execVsuxei16V vm nf vs3 rs1 vs2 s
  | .vsoxei16_v vm nf vs3 rs1 vs2 => Sys2Proof.Machine.execVsoxei16V vm nf vs3 rs1 vs2 s
  | .vle32_v vm nf vd rs1 => Sys2Proof.Machine.execVle32V vm nf vd rs1 s
  | .vle32ff_v vm nf vd rs1 => Sys2Proof.Machine.execVle32ffV vm nf vd rs1 s
  | .vlse32_v vm nf vd rs1 rs2 => Sys2Proof.Machine.execVlse32V vm nf vd rs1 rs2 s
  | .vluxei32_v vm nf vd rs1 vs2 => Sys2Proof.Machine.execVluxei32V vm nf vd rs1 vs2 s
  | .vloxei32_v vm nf vd rs1 vs2 => Sys2Proof.Machine.execVloxei32V vm nf vd rs1 vs2 s
  | .vse32_v vm nf vs3 rs1 => Sys2Proof.Machine.execVse32V vm nf vs3 rs1 s
  | .vsse32_v vm nf vs3 rs1 rs2 => Sys2Proof.Machine.execVsse32V vm nf vs3 rs1 rs2 s
  | .vsuxei32_v vm nf vs3 rs1 vs2 => Sys2Proof.Machine.execVsuxei32V vm nf vs3 rs1 vs2 s
  | .vsoxei32_v vm nf vs3 rs1 vs2 => Sys2Proof.Machine.execVsoxei32V vm nf vs3 rs1 vs2 s
  | .vle64_v vm nf vd rs1 => Sys2Proof.Machine.execVle64V vm nf vd rs1 s
  | .vle64ff_v vm nf vd rs1 => Sys2Proof.Machine.execVle64ffV vm nf vd rs1 s
  | .vlse64_v vm nf vd rs1 rs2 => Sys2Proof.Machine.execVlse64V vm nf vd rs1 rs2 s
  | .vluxei64_v vm nf vd rs1 vs2 => Sys2Proof.Machine.execVluxei64V vm nf vd rs1 vs2 s
  | .vloxei64_v vm nf vd rs1 vs2 => Sys2Proof.Machine.execVloxei64V vm nf vd rs1 vs2 s
  | .vse64_v vm nf vs3 rs1 => Sys2Proof.Machine.execVse64V vm nf vs3 rs1 s
  | .vsse64_v vm nf vs3 rs1 rs2 => Sys2Proof.Machine.execVsse64V vm nf vs3 rs1 rs2 s
  | .vsuxei64_v vm nf vs3 rs1 vs2 => Sys2Proof.Machine.execVsuxei64V vm nf vs3 rs1 vs2 s
  | .vsoxei64_v vm nf vs3 rs1 vs2 => Sys2Proof.Machine.execVsoxei64V vm nf vs3 rs1 vs2 s
  | .vl1re8_v vd rs1 => Sys2Proof.Machine.execVl1re8V vd rs1 s
  | .vl1re16_v vd rs1 => Sys2Proof.Machine.execVl1re16V vd rs1 s
  | .vl1re32_v vd rs1 => Sys2Proof.Machine.execVl1re32V vd rs1 s
  | .vl1re64_v vd rs1 => Sys2Proof.Machine.execVl1re64V vd rs1 s
  | .vs1r_v vs3 rs1 => Sys2Proof.Machine.execVs1rV vs3 rs1 s
  | .vl2re8_v vd rs1 => Sys2Proof.Machine.execVl2re8V vd rs1 s
  | .vl2re16_v vd rs1 => Sys2Proof.Machine.execVl2re16V vd rs1 s
  | .vl2re32_v vd rs1 => Sys2Proof.Machine.execVl2re32V vd rs1 s
  | .vl2re64_v vd rs1 => Sys2Proof.Machine.execVl2re64V vd rs1 s
  | .vs2r_v vs3 rs1 => Sys2Proof.Machine.execVs2rV vs3 rs1 s
  | .vl4re8_v vd rs1 => Sys2Proof.Machine.execVl4re8V vd rs1 s
  | .vl4re16_v vd rs1 => Sys2Proof.Machine.execVl4re16V vd rs1 s
  | .vl4re32_v vd rs1 => Sys2Proof.Machine.execVl4re32V vd rs1 s
  | .vl4re64_v vd rs1 => Sys2Proof.Machine.execVl4re64V vd rs1 s
  | .vs4r_v vs3 rs1 => Sys2Proof.Machine.execVs4rV vs3 rs1 s
  | .vl8re8_v vd rs1 => Sys2Proof.Machine.execVl8re8V vd rs1 s
  | .vl8re16_v vd rs1 => Sys2Proof.Machine.execVl8re16V vd rs1 s
  | .vl8re32_v vd rs1 => Sys2Proof.Machine.execVl8re32V vd rs1 s
  | .vl8re64_v vd rs1 => Sys2Proof.Machine.execVl8re64V vd rs1 s
  | .vs8r_v vs3 rs1 => Sys2Proof.Machine.execVs8rV vs3 rs1 s
  | .vlm_v vd rs1 => Sys2Proof.Machine.execVlmV vd rs1 s
  | .vsm_v vs3 rs1 => Sys2Proof.Machine.execVsmV vs3 rs1 s

end Sys2Proof.Machine
end

