-- ==== Sys2Proof/Machine/Step.lean ====
section
/-! DEFINITION. One step: the next collaborator action if one waits (log 13), else the next command (60_exceptions R1220). -/

namespace Sys2Proof.Machine

def step (s : State) : Host.Outcome State Fault Refusal :=
  match s.inbox with
  | a :: rest => .next ({ s with inbox := rest }.applyAction a)
  | [] =>
    match s.fetch with
    | none => .refused .noCommand
    | some w =>
      match s.issue w with
      | .error o => o
      | .ok i => exec i s

/-- `s` with the one word `w` launched at the pc, and no collaborator action before it (70_reset R1304; log 7). -/
def State.withFetchWord (s : State) (nbits w : Nat) : State :=
  { s with inbox := [], launch := s.pc, program := [BitVec.ofNat 32 (w % 2 ^ nbits)] }

end Sys2Proof.Machine
end

