-- ==== Sys2Proof/Safety.lean ====
section
/-! DEFINITION. The terms the claims use: the invariant that every step keeps, what a safe run is, and a reference reading of a
command as a fold over its elements, on plain data and with no early end. -/

namespace Sys2Proof.Machine

/-- A store is canonical and lists only addresses below `n`. -/
def Memory.fits (m : Memory) (n : Nat) : Bool := Memory.wf m && m.all (fun c => c.1 < n)

/-- Hidden per-command state is empty between commands (10_state R116, R117). -/
def State.hiddenEmpty (s : State) : Bool := s.touched.isEmpty && s.maskBits.isEmpty && s.ffPending.isNone

/-- The invariant of the machine: the parameters are legal (00_scope R11), the register file, its marks and memory are
canonical and lie inside their address ranges (10_state R100, 20_memory R200), the hidden state is empty (10_state R116,
R117), there are 32 scalar registers (30_encoding R320), and every XLEN-bit register fits (10_state R108, R109, 60_exceptions
R1220). -/
def State.inv (s : State) : Bool :=
  s.cfg.wf && s.vrf.fits s.vrfSize && s.vrfWritten.fits s.vrfSize && s.mem.fits s.xmod && s.hiddenEmpty
    && s.x.length == 32
    && s.vl < s.xmod && s.vstart < s.xmod && s.pc < s.xmod && s.launch < s.xmod && s.xepc < s.xmod && s.xtvec < s.xmod
    && s.xcause < s.xmod && s.xtval < s.xmod

/-- A state that has not gone wrong: no VRF bit was read before a write set it (10_state R121; log 2). -/
def State.safe (s : State) : Bool := !s.readUnwritten

/-- `n` steps run without a model fault or a refusal, and no state on the way has gone wrong. -/
def safeRun : Nat → State → Bool
  | 0, s => s.safe
  | n + 1, s =>
    s.safe &&
      match step s with
      | .next t => safeRun n t
      | .fault _ => false
      | .refused _ => false

end Sys2Proof.Machine

namespace Sys2Proof.Reference

open Sys2Proof.Machine

/-- What a command's elements can change. -/
structure View where
  vrf : Memory
  marks : Memory
  sat : Bool
  mem : Memory
  trace : List MemEvent
  deriving DecidableEq, Repr

def view (s : State) : View := ⟨s.vrf, s.vrfWritten, s.vxsat, s.mem, s.trace⟩

/-- The calls made since `s` (20_memory R209). -/
def calls (s : State) (v : View) : Nat := v.trace.length - s.trace.length

/-- `s` in the middle of a command: the cursor at `k`, what the elements changed, and one answer used up per call. -/
def inside (s : State) (v : View) (k : Nat) (bad : Bool) : State :=
  { s with
    vrf := v.vrf, vrfWritten := v.marks, vxsat := v.sat, mem := v.mem, trace := v.trace
    answers := s.answers.drop (calls s v), vstart := k, readUnwritten := bad
    touched := [], maskBits := [], ffPending := none }

/-- The command completes with the changes of `v`: `vstart` is 0, the result is `Done`, the pc is 4 further, and nothing else
changes (40_element_engine R408, 60_exceptions R1220). `bad` is the gone-wrong bit (log 2), which the claim leaves open. -/
def Completes (s : State) (o : Host.Outcome State Fault Refusal) (v : View) : Prop :=
  ∃ bad, o = .next { inside s v 0 bad with result := some .done, pc := s.addr (s.pc + 4) }

/-- The command ends in the trap `MemFault(info)` at element or byte `k`, with the changes of `v` made, and the trap is
delivered (60_exceptions R1209, R1210). -/
def Traps (s : State) (o : Host.Outcome State Fault Refusal) (k : Nat) (store : Bool) (info : FaultInfo) (v : View) : Prop :=
  ∃ bad, o = .next
    { inside s v k bad with
      result := some (.trap (.memFault store info)), xepc := s.pc, xcause := Trap.cause (.memFault store info)
      xtval := info.addr, pc := s.xtvec }

/-- The command completes with `vl` cut to `k` (42_memory_access R520). -/
def Truncates (s : State) (o : Host.Outcome State Fault Refusal) (k : Nat) (v : View) : Prop :=
  ∃ bad, o = .next { inside s v 0 bad with vl := k, result := some .done, pc := s.addr (s.pc + 4) }

/-- The bytes of a `w`-bit element of register `reg`, field 0 (40_element_engine R401). -/
def elemBytes (c : Config) (w reg ei : Nat) : List Nat := List.range' (reg * c.vlenb + ei * (w / 8)) (w / 8)

/-- The element at those bytes (40_element_engine R402). -/
def elem (c : Config) (m : Memory) (w reg ei : Nat) : BitVec w := BitVec.ofNat w (Memory.readList m (elemBytes c w reg ei))

/-- Element `ei`'s mask bit in register `reg` (40_element_engine R403). -/
def maskBit (c : Config) (m : Memory) (reg ei : Nat) : Bool := (Memory.read m (reg * c.vlenb + ei / 8)).getLsbD (ei % 8)

/-- Write an element and mark its bytes as written (40_element_engine R402, 10_state R121). -/
def View.put (c : Config) (w reg ei : Nat) (r : BitVec w) (v : View) : View :=
  { v with
    vrf := Memory.writeList v.vrf (elemBytes c w reg ei) r.toNat
    marks := Memory.fill v.marks 0xFF (elemBytes c w reg ei) }

/-- The elements a command processes, in order (40_element_engine R406). -/
def elements (s : State) : List Nat := List.range' s.vstart (s.vl - s.vstart)

/-- Each active element of a list in turn sees what the earlier ones left (40_element_engine R406, R409). -/
def runOver {α : Type} (active : α → Nat → Bool) (body : Nat → α → α) (l : List Nat) (v : α) : α :=
  l.foldl (fun v ei => if active v ei then body ei v else v) v

/-- The element loop of a command (40_element_engine R406). -/
def loop (s : State) (active : View → Nat → Bool) (body : Nat → View → View) : View :=
  runOver active body (elements s) (view s)

/-- Unmasked, or the element's bit of `v0` as the earlier elements left it (40_element_engine R404). -/
def active (s : State) (vm : Bool) (v : View) (ei : Nat) : Bool := vm || maskBit s.cfg v.vrf 0 ei

/-- `op1` (30_encoding R330 to R332). -/
def op1 (s : State) (w : Nat) (src : Src) (v : View) (ei : Nat) : BitVec w :=
  match src with
  | .vec r => elem s.cfg v.vrf w r ei
  | .scalar r => BitVec.ofInt w (s.xsigned r)
  | .simm i => BitVec.ofInt w (BitVec.ofNat 5 i).toInt
  | .uimm i => BitVec.ofNat w i

/-- An index or offset: the whole scalar or immediate, unsigned, or a `vs1` element (30_encoding R331, 48_permutation R1001). -/
def index (s : State) (w : Nat) (src : Src) (v : View) (ei : Nat) : Nat :=
  match src with
  | .vec r => (elem s.cfg v.vrf w r ei).toNat
  | .scalar r => s.xval r
  | .simm i => i
  | .uimm i => i

/-! ### Element bodies -/

/-- A two-operand body; the second part of `f` sets `vxsat` (43_alu R600, 45_fixed_point R804). -/
def binary (s : State) (w2 w1 wd vd vs2 : Nat) (src : Src) (f : BitVec w2 → BitVec w1 → BitVec wd × Bool) (ei : Nat)
    (v : View) : View :=
  let r := f (elem s.cfg v.vrf w2 vs2 ei) (op1 s w1 src v ei)
  { (v.put s.cfg wd vd ei r.1) with sat := v.sat || r.2 }

/-- A one-operand body (44 R740). -/
def unary (s : State) (w2 wd vd vs2 : Nat) (f : BitVec w2 → BitVec wd) (ei : Nat) (v : View) : View :=
  v.put s.cfg wd vd ei (f (elem s.cfg v.vrf w2 vs2 ei))

/-- A multiply-add body: `op1`, `op2`, and the old element of `vd` (43_alu R624, 44 R721). -/
def ternary (s : State) (w1 wd vd vs2 : Nat) (src : Src) (f : BitVec w1 → BitVec w1 → BitVec wd → BitVec wd) (ei : Nat)
    (v : View) : View :=
  v.put s.cfg wd vd ei (f (op1 s w1 src v ei) (elem s.cfg v.vrf w1 vs2 ei) (elem s.cfg v.vrf wd vd ei))

/-- A body with the carry-in of `v0` (43_alu R628). -/
def carried (s : State) (w vd vs2 : Nat) (src : Src) (f : BitVec w → BitVec w → Bool → BitVec w) (ei : Nat)
    (v : View) : View :=
  v.put s.cfg w vd ei (f (elem s.cfg v.vrf w vs2 ei) (op1 s w src v ei) (maskBit s.cfg v.vrf 0 ei))

/-- `vrgather` (48_permutation R1010). -/
def gathered (s : State) (w vd vs2 : Nat) (src : Src) (ei : Nat) (v : View) : View :=
  v.put s.cfg w vd ei (if index s w src v ei < s.vlmax then elem s.cfg v.vrf w vs2 (index s w src v ei) else 0)

/-- `vslideup` (48_permutation R1020). -/
def slidUp (s : State) (w vd vs2 : Nat) (src : Src) (ei : Nat) (v : View) : View :=
  if index s w src v ei ≤ ei then v.put s.cfg w vd ei (elem s.cfg v.vrf w vs2 (ei - index s w src v ei)) else v

/-- `vslidedown` (48_permutation R1021). -/
def slidDown (s : State) (w vd vs2 : Nat) (src : Src) (ei : Nat) (v : View) : View :=
  v.put s.cfg w vd ei (if ei + index s w src v ei < s.vlmax then elem s.cfg v.vrf w vs2 (ei + index s w src v ei) else 0)

/-- `vslide1up` (48_permutation R1022). -/
def slidOneUp (s : State) (w vd vs2 rs1 : Nat) (ei : Nat) (v : View) : View :=
  v.put s.cfg w vd ei (if ei = 0 then BitVec.ofInt w (s.xsigned rs1) else elem s.cfg v.vrf w vs2 (ei - 1))

/-- `vslide1down` (48_permutation R1023). -/
def slidOneDown (s : State) (w vd vs2 rs1 : Nat) (ei : Nat) (v : View) : View :=
  v.put s.cfg w vd ei (if ei + 1 = s.vl then BitVec.ofInt w (s.xsigned rs1) else elem s.cfg v.vrf w vs2 (ei + 1))

/-- A reduction: the seed `vs1[0]`, the active elements folded in, element 0 of `vd` written; with `vl = 0` only under
`RED_WRITES_EMPTY` (47_reductions R950, R951). -/
def reduced (s : State) (w aw : Nat) (vm : Bool) (vd vs2 vs1 : Nat) (f : BitVec aw → BitVec w → BitVec aw) : View :=
  if s.vl = 0 ∧ s.cfg.redWritesEmpty = false then view s
  else
    (view s).put s.cfg aw vd 0
      (((elements s).filter (active s vm (view s))).foldl (fun acc ei => f acc (elem s.cfg s.vrf w vs2 ei))
        (elem s.cfg s.vrf aw vs1 0))

/-! ### Memory accesses -/

/-- A memory command: the primitive it calls, its data width, register, EMUL (as a logarithm) and field count, its mask, and the
address of a field, which may read an index from the register file (42_memory_access R502). -/
structure Access where
  call : CallKind
  w : Nat
  reg : Nat
  emul : Int
  nf : Nat
  vm : Bool
  addr : Memory → Nat → Nat → Int

/-- The register that holds field `fi` (40_element_engine R401). -/
def Access.fieldReg (a : Access) (fi : Nat) : Nat := a.reg + fi * regsPerField a.emul

/-- The memory bytes at an address, wrapping (20_memory R200, R203). -/
def memBytes (s : State) (z : Int) (n : Nat) : List Nat := (List.range n).map (fun k : Nat => s.addr (z + k))

/-- One field of one element: one call at the address `z`, and the transfer (42_memory_access R504). -/
def field (s : State) (a : Access) (z : Int) (ei fi : Nat) (v : View) : View :=
  let bytes := memBytes s z (a.w / 8)
  if a.call = .write then
    let x := (elem s.cfg v.vrf a.w (a.fieldReg fi) ei).toNat
    { v with mem := Memory.writeList v.mem bytes x, trace := v.trace ++ [⟨.write, s.addr z, a.w / 8, x, none⟩] }
  else
    let x := Memory.readList v.mem bytes
    { (v.put s.cfg a.w (a.fieldReg fi) ei (BitVec.ofNat a.w x)) with
      trace := v.trace ++ [⟨a.call, s.addr z, a.w / 8, x, none⟩] }

/-- The first `n` fields of one element, in ascending order; its index, if any, is read before them (42_memory_access R504,
R514). -/
def fields (s : State) (a : Access) (n ei : Nat) (v : View) : View :=
  (List.range n).foldl (fun w fi => field s a (a.addr v.vrf ei fi) ei fi w) v

/-- A whole element. -/
def transfer (s : State) (a : Access) (ei : Nat) (v : View) : View := fields s a (a.nf + 1) ei v

/-- A unit-stride access of width `2^eLog` (42_memory_access R502, R510). -/
def unitAccess (s : State) (call : CallKind) (eLog : Nat) (vm : Bool) (nf reg rs1 : Nat) : Access where
  call := call
  w := 2 ^ eLog
  reg := reg
  emul := s.emulLog eLog
  nf := nf
  vm := vm
  addr _ ei fi := (s.xval rs1 : Int) + (ei * (nf + 1) + fi) * (2 ^ eLog / 8 : Nat)

/-- A strided access of width `2^eLog` (42_memory_access R502, R508, R512). -/
def stridedAccess (s : State) (call : CallKind) (eLog : Nat) (vm : Bool) (nf reg rs1 rs2 : Nat) : Access where
  call := call
  w := 2 ^ eLog
  reg := reg
  emul := s.emulLog eLog
  nf := nf
  vm := vm
  addr _ ei fi := (s.xval rs1 : Int) + ei * s.xsigned rs2 + fi * (2 ^ eLog / 8 : Nat)

/-- An indexed access: SEW-wide data, `2^eLog`-wide unsigned byte indices (42_memory_access R500, R502, R514). -/
def indexedAccess (s : State) (call : CallKind) (eLog : Nat) (vm : Bool) (nf reg rs1 vs2 : Nat) : Access where
  call := call
  w := s.sew
  reg := reg
  emul := s.lmulLog
  nf := nf
  vm := vm
  addr m ei fi := (s.xval rs1 : Int) + (elem s.cfg m (2 ^ eLog) vs2 ei).toNat + fi * (s.sew / 8 : Nat)

/-- A whole-register or mask access: one byte per call, no mask (42_memory_access R525, R530). -/
def byteAccess (s : State) (call : CallKind) (reg rs1 : Nat) : Access where
  call := call
  w := 8
  reg := reg
  emul := 0
  nf := 0
  vm := true
  addr _ j _ := (s.xval rs1 : Int) + j

/-- The bytes a byte-granular command moves: `vstart` counts bytes (40_element_engine R407). -/
def byteIndices (s : State) (n : Nat) : List Nat := List.range' s.vstart (n - s.vstart)

/-- Whatever calls the command makes, the memory collaborator answers Ok and its own agents are quiet (20_memory R209, R210). -/
def quiet (s : State) : Prop := ∀ a ∈ s.answers, a.agents = [] ∧ a.fault = none

/-- The `k`-th call of the command is the first that faults, with the kind `kind`, and no agent has acted up to it. -/
def firstFault (s : State) (k : Nat) (kind : FaultKind) : Prop :=
  (∀ j < k, ((s.answers.drop j).headD ⟨[], none⟩).agents = [] ∧ ((s.answers.drop j).headD ⟨[], none⟩).fault = none)
    ∧ ((s.answers.drop k).headD ⟨[], none⟩).agents = [] ∧ ((s.answers.drop k).headD ⟨[], none⟩).fault = some kind

/-- The elements of the command below `ei`, done. -/
def upTo (s : State) (a : Access) (ei : Nat) : View :=
  runOver (fun v ei => active s a.vm v ei) (transfer s a) (List.range' s.vstart (ei - s.vstart)) (view s)

/-- Everything done before the call for field `fi` of element `ei` (42_memory_access R504, R505). -/
def before (s : State) (a : Access) (ei fi : Nat) : View := fields s a fi ei (upTo s a ei)

/-- The call for field `fi` of element `ei` faults: the call is recorded, nothing is transferred (20_memory R209). -/
def faulted (s : State) (a : Access) (ei fi : Nat) (kind : FaultKind) : View :=
  let v := before s a ei fi
  let z := s.addr (a.addr (upTo s a ei).vrf ei fi)
  let x := if a.call = .write then (elem s.cfg v.vrf a.w (a.fieldReg fi) ei).toNat else 0
  { v with trace := v.trace ++ [⟨a.call, z, a.w / 8, x, some ⟨kind, z⟩⟩] }

/-! ### Mask destinations -/

/-- A mask destination in the middle of a command: the register file, its marks, the touched bytes, and the elements whose bit
was written (10_state R116, 40_element_engine R405). -/
structure MaskView where
  vrf : Memory
  marks : Memory
  touched : List Nat
  written : List Nat
  deriving DecidableEq, Repr

def maskView (s : State) : MaskView := ⟨s.vrf, s.vrfWritten, [], []⟩

/-- The byte of element `ei`'s mask bit is zeroed first: on the first touch of the byte, or under `byte_start` at the byte's
first bit (40_element_engine R405). -/
def zeroes (s : State) (m : MaskView) (ei : Nat) : Bool :=
  if s.cfg.maskDestPolicy = .byteStart then ei % 8 = 0 else ei / 8 ∉ m.touched

/-- Write one mask bit (40_element_engine R405). -/
def MaskView.put (s : State) (vd ei : Nat) (b : Bool) (m : MaskView) : MaskView :=
  let a := vd * s.cfg.vlenb + ei / 8
  let old := if zeroes s m ei then 0 else Memory.read m.vrf a
  let mark := if zeroes s m ei then 0xFF else Memory.read m.marks a ||| bitMask (ei % 8)
  { vrf := Memory.write m.vrf a (setBit old (ei % 8) b)
    marks := Memory.write m.marks a mark
    touched := if ei / 8 ∈ m.touched then m.touched else m.touched ++ [ei / 8]
    written := m.written ++ [ei] }

/-- A mask destination keeps every bit but, under `agnostic`, those of touched bytes that no element wrote
(40_element_engine R405). -/
def settles (s : State) (vd : Nat) (m : MaskView) (vrf : Memory) : Prop :=
  ∀ a k, k < 8 →
    (s.cfg.maskDestPolicy = .agnostic → ∀ b ∈ m.touched, a = vd * s.cfg.vlenb + b → 8 * b + k ∈ m.written) →
    (Memory.read vrf a).getLsbD k = (Memory.read m.vrf a).getLsbD k

/-- A mask-producing command completes with the bits of `m`, up to the free bits of `agnostic` (log 6); memory, the trace and
`vxsat` stay. -/
def CompletesMask (s : State) (o : Host.Outcome State Fault Refusal) (vd : Nat) (m : MaskView) : Prop :=
  ∃ vrf bad draws, settles s vd m vrf ∧
    o = .next { inside s ⟨vrf, m.marks, s.vxsat, s.mem, s.trace⟩ 0 bad with
      freeDraws := draws, result := some .done, pc := s.addr (s.pc + 4) }

end Sys2Proof.Reference
end

