-- ==== Sys2Proof/Claims.lean ====
section
/-! DEFINITION. The tables the claims are stated over: which operands each instruction checks, and what each instruction of a
class does to one element, in terms of bit strings and integers and not of the machine's own element functions. -/

namespace Sys2Proof.Claims

open Sys2Proof.Machine Sys2Proof.Reference

/-! ### Operands and their shapes -/

/-- An operand at (SEW, LMUL) (41_shape R457). -/
def narrow (s : State) (reg : Nat) : Shape := ⟨reg, s.sew, s.lmulLog, 0⟩

/-- An operand at (2 SEW, 2 LMUL) (41_shape R457). -/
def wide (s : State) (reg : Nat) : Shape := ⟨reg, 2 * s.sew, s.lmulLog + 1, 0⟩

/-- An operand at (SEW / f, LMUL / f), `f = 2^k` (41_shape R457). -/
def fraction (s : State) (k reg : Nat) : Shape := ⟨reg, s.sew / 2 ^ k, s.lmulLog - k, 0⟩

/-- An operand of which only element 0 is used (41_shape R457). -/
def scalarAt (w reg : Nat) : Shape := ⟨reg, w, 0, 0⟩

/-- A memory operand or index of encoded width `2^e` (41_shape R457). -/
def memoryAt (s : State) (e reg nf : Nat) : Shape := ⟨reg, 2 ^ e, s.emulLog e, nf⟩

/-- A group of `2^k` whole registers (41_shape R458). -/
def whole (k reg : Nat) : Shape := ⟨reg, 8, k, 0⟩

/-- The operands the validator checks (41_shape R457, R458). -/
def operands (s : State) : Instr → List Shape
  | .vadd_vv _ vd vs2 vs1 | .vsub_vv _ vd vs2 vs1 | .vminu_vv _ vd vs2 vs1 | .vmin_vv _ vd vs2 vs1
  | .vmaxu_vv _ vd vs2 vs1 | .vmax_vv _ vd vs2 vs1 | .vand_vv _ vd vs2 vs1 | .vor_vv _ vd vs2 vs1
  | .vxor_vv _ vd vs2 vs1 | .vrgather_vv _ vd vs2 vs1 | .vadc_vvm vd vs2 vs1 | .vsbc_vvm vd vs2 vs1
  | .vsaddu_vv _ vd vs2 vs1 | .vsadd_vv _ vd vs2 vs1 | .vssubu_vv _ vd vs2 vs1 | .vssub_vv _ vd vs2 vs1
  | .vsll_vv _ vd vs2 vs1 | .vsmul_vv _ vd vs2 vs1 | .vsrl_vv _ vd vs2 vs1 | .vsra_vv _ vd vs2 vs1
  | .vssrl_vv _ vd vs2 vs1 | .vssra_vv _ vd vs2 vs1 | .vaaddu_vv _ vd vs2 vs1 | .vaadd_vv _ vd vs2 vs1
  | .vasubu_vv _ vd vs2 vs1 | .vasub_vv _ vd vs2 vs1 | .vdivu_vv _ vd vs2 vs1 | .vdiv_vv _ vd vs2 vs1
  | .vremu_vv _ vd vs2 vs1 | .vrem_vv _ vd vs2 vs1 | .vmulhu_vv _ vd vs2 vs1 | .vmul_vv _ vd vs2 vs1
  | .vmulhsu_vv _ vd vs2 vs1 | .vmulh_vv _ vd vs2 vs1 | .vmadd_vv _ vd vs2 vs1 | .vnmsub_vv _ vd vs2 vs1
  | .vmacc_vv _ vd vs2 vs1 | .vnmsac_vv _ vd vs2 vs1 =>
    [narrow s vd, narrow s vs2, narrow s vs1]
  | .vadd_vx _ vd vs2 _ | .vadd_vi _ vd vs2 _ | .vsub_vx _ vd vs2 _ | .vrsub_vx _ vd vs2 _
  | .vrsub_vi _ vd vs2 _ | .vminu_vx _ vd vs2 _ | .vmin_vx _ vd vs2 _ | .vmaxu_vx _ vd vs2 _
  | .vmax_vx _ vd vs2 _ | .vand_vx _ vd vs2 _ | .vand_vi _ vd vs2 _ | .vor_vx _ vd vs2 _ | .vor_vi _ vd vs2 _
  | .vxor_vx _ vd vs2 _ | .vxor_vi _ vd vs2 _ | .vrgather_vx _ vd vs2 _ | .vrgather_vi _ vd vs2 _
  | .vslideup_vx _ vd vs2 _ | .vslideup_vi _ vd vs2 _ | .vslidedown_vx _ vd vs2 _ | .vslidedown_vi _ vd vs2 _
  | .vadc_vxm vd vs2 _ | .vadc_vim vd vs2 _ | .vsbc_vxm vd vs2 _ | .vsaddu_vx _ vd vs2 _ | .vsaddu_vi _ vd vs2 _
  | .vsadd_vx _ vd vs2 _ | .vsadd_vi _ vd vs2 _ | .vssubu_vx _ vd vs2 _ | .vssub_vx _ vd vs2 _
  | .vsll_vx _ vd vs2 _ | .vsll_vi _ vd vs2 _ | .vsmul_vx _ vd vs2 _ | .vsrl_vx _ vd vs2 _ | .vsrl_vi _ vd vs2 _
  | .vsra_vx _ vd vs2 _ | .vsra_vi _ vd vs2 _ | .vssrl_vx _ vd vs2 _ | .vssrl_vi _ vd vs2 _
  | .vssra_vx _ vd vs2 _ | .vssra_vi _ vd vs2 _ | .vaaddu_vx _ vd vs2 _ | .vaadd_vx _ vd vs2 _
  | .vasubu_vx _ vd vs2 _ | .vasub_vx _ vd vs2 _ | .vslide1up_vx _ vd vs2 _ | .vslide1down_vx _ vd vs2 _
  | .vdivu_vx _ vd vs2 _ | .vdiv_vx _ vd vs2 _ | .vremu_vx _ vd vs2 _ | .vrem_vx _ vd vs2 _
  | .vmulhu_vx _ vd vs2 _ | .vmul_vx _ vd vs2 _ | .vmulhsu_vx _ vd vs2 _ | .vmulh_vx _ vd vs2 _
  | .vmadd_vx _ vd vs2 _ | .vnmsub_vx _ vd vs2 _ | .vmacc_vx _ vd vs2 _ | .vnmsac_vx _ vd vs2 _ =>
    [narrow s vd, narrow s vs2]
  | .vmadc_vvm _ vs2 vs1 | .vmadc_vv _ vs2 vs1 | .vmsbc_vvm _ vs2 vs1 | .vmsbc_vv _ vs2 vs1
  | .vmseq_vv _ _ vs2 vs1 | .vmsne_vv _ _ vs2 vs1 | .vmsltu_vv _ _ vs2 vs1 | .vmslt_vv _ _ vs2 vs1
  | .vmsleu_vv _ _ vs2 vs1 | .vmsle_vv _ _ vs2 vs1 =>
    [narrow s vs2, narrow s vs1]
  | .vmadc_vxm _ vs2 _ | .vmadc_vim _ vs2 _ | .vmadc_vx _ vs2 _ | .vmadc_vi _ vs2 _ | .vmsbc_vxm _ vs2 _
  | .vmsbc_vx _ vs2 _ | .vmseq_vx _ _ vs2 _ | .vmseq_vi _ _ vs2 _ | .vmsne_vx _ _ vs2 _ | .vmsne_vi _ _ vs2 _
  | .vmsltu_vx _ _ vs2 _ | .vmslt_vx _ _ vs2 _ | .vmsleu_vx _ _ vs2 _ | .vmsleu_vi _ _ vs2 _
  | .vmsle_vx _ _ vs2 _ | .vmsle_vi _ _ vs2 _ | .vmsgtu_vx _ _ vs2 _ | .vmsgtu_vi _ _ vs2 _
  | .vmsgt_vx _ _ vs2 _ | .vmsgt_vi _ _ vs2 _ =>
    [narrow s vs2]
  | .vnsrl_wv _ vd vs2 vs1 | .vnsra_wv _ vd vs2 vs1 | .vnclipu_wv _ vd vs2 vs1 | .vnclip_wv _ vd vs2 vs1 =>
    [narrow s vd, wide s vs2, narrow s vs1]
  | .vnsrl_wx _ vd vs2 _ | .vnsrl_wi _ vd vs2 _ | .vnsra_wx _ vd vs2 _ | .vnsra_wi _ vd vs2 _
  | .vnclipu_wx _ vd vs2 _ | .vnclipu_wi _ vd vs2 _ | .vnclip_wx _ vd vs2 _ | .vnclip_wi _ vd vs2 _ =>
    [narrow s vd, wide s vs2]
  | .vwredsumu_vs _ vd vs2 vs1 | .vwredsum_vs _ vd vs2 vs1 =>
    [narrow s vs2, scalarAt (2 * s.sew) vd, scalarAt (2 * s.sew) vs1]
  | .vredsum_vs _ vd vs2 vs1 | .vredand_vs _ vd vs2 vs1 | .vredor_vs _ vd vs2 vs1 | .vredxor_vs _ vd vs2 vs1
  | .vredminu_vs _ vd vs2 vs1 | .vredmin_vs _ vd vs2 vs1 | .vredmaxu_vs _ vd vs2 vs1 | .vredmax_vs _ vd vs2 vs1 =>
    [narrow s vs2, scalarAt s.sew vd, scalarAt s.sew vs1]
  | .vzext_vf8 _ vd vs2 | .vsext_vf8 _ vd vs2 =>
    [narrow s vd, fraction s 3 vs2]
  | .vzext_vf4 _ vd vs2 | .vsext_vf4 _ vd vs2 =>
    [narrow s vd, fraction s 2 vs2]
  | .vzext_vf2 _ vd vs2 | .vsext_vf2 _ vd vs2 =>
    [narrow s vd, fraction s 1 vs2]
  | .vwaddu_vv _ vd vs2 vs1 | .vwadd_vv _ vd vs2 vs1 | .vwsubu_vv _ vd vs2 vs1 | .vwsub_vv _ vd vs2 vs1
  | .vwmulu_vv _ vd vs2 vs1 | .vwmulsu_vv _ vd vs2 vs1 | .vwmul_vv _ vd vs2 vs1 | .vwmaccu_vv _ vd vs2 vs1
  | .vwmacc_vv _ vd vs2 vs1 | .vwmaccsu_vv _ vd vs2 vs1 =>
    [wide s vd, narrow s vs2, narrow s vs1]
  | .vwaddu_vx _ vd vs2 _ | .vwadd_vx _ vd vs2 _ | .vwsubu_vx _ vd vs2 _ | .vwsub_vx _ vd vs2 _
  | .vwmulu_vx _ vd vs2 _ | .vwmulsu_vx _ vd vs2 _ | .vwmul_vx _ vd vs2 _ | .vwmaccu_vx _ vd vs2 _
  | .vwmacc_vx _ vd vs2 _ | .vwmaccus_vx _ vd vs2 _ | .vwmaccsu_vx _ vd vs2 _ =>
    [wide s vd, narrow s vs2]
  | .vwaddu_wv _ vd vs2 vs1 | .vwadd_wv _ vd vs2 vs1 | .vwsubu_wv _ vd vs2 vs1 | .vwsub_wv _ vd vs2 vs1 =>
    [wide s vd, wide s vs2, narrow s vs1]
  | .vwaddu_wx _ vd vs2 _ | .vwadd_wx _ vd vs2 _ | .vwsubu_wx _ vd vs2 _ | .vwsub_wx _ vd vs2 _ =>
    [wide s vd, wide s vs2]
  | .vle8_v _ nf vd _ | .vle8ff_v _ nf vd _ | .vlse8_v _ nf vd _ _ =>
    [memoryAt s 3 vd nf]
  | .vluxei8_v _ nf vd _ vs2 | .vloxei8_v _ nf vd _ vs2 =>
    [⟨vd, s.sew, s.lmulLog, nf⟩, memoryAt s 3 vs2 0]
  | .vse8_v _ nf vs3 _ | .vsse8_v _ nf vs3 _ _ =>
    [memoryAt s 3 vs3 nf]
  | .vsuxei8_v _ nf vs3 _ vs2 | .vsoxei8_v _ nf vs3 _ vs2 =>
    [⟨vs3, s.sew, s.lmulLog, nf⟩, memoryAt s 3 vs2 0]
  | .vle16_v _ nf vd _ | .vle16ff_v _ nf vd _ | .vlse16_v _ nf vd _ _ =>
    [memoryAt s 4 vd nf]
  | .vluxei16_v _ nf vd _ vs2 | .vloxei16_v _ nf vd _ vs2 =>
    [⟨vd, s.sew, s.lmulLog, nf⟩, memoryAt s 4 vs2 0]
  | .vse16_v _ nf vs3 _ | .vsse16_v _ nf vs3 _ _ =>
    [memoryAt s 4 vs3 nf]
  | .vsuxei16_v _ nf vs3 _ vs2 | .vsoxei16_v _ nf vs3 _ vs2 =>
    [⟨vs3, s.sew, s.lmulLog, nf⟩, memoryAt s 4 vs2 0]
  | .vle32_v _ nf vd _ | .vle32ff_v _ nf vd _ | .vlse32_v _ nf vd _ _ =>
    [memoryAt s 5 vd nf]
  | .vluxei32_v _ nf vd _ vs2 | .vloxei32_v _ nf vd _ vs2 =>
    [⟨vd, s.sew, s.lmulLog, nf⟩, memoryAt s 5 vs2 0]
  | .vse32_v _ nf vs3 _ | .vsse32_v _ nf vs3 _ _ =>
    [memoryAt s 5 vs3 nf]
  | .vsuxei32_v _ nf vs3 _ vs2 | .vsoxei32_v _ nf vs3 _ vs2 =>
    [⟨vs3, s.sew, s.lmulLog, nf⟩, memoryAt s 5 vs2 0]
  | .vle64_v _ nf vd _ | .vle64ff_v _ nf vd _ | .vlse64_v _ nf vd _ _ =>
    [memoryAt s 6 vd nf]
  | .vluxei64_v _ nf vd _ vs2 | .vloxei64_v _ nf vd _ vs2 =>
    [⟨vd, s.sew, s.lmulLog, nf⟩, memoryAt s 6 vs2 0]
  | .vse64_v _ nf vs3 _ | .vsse64_v _ nf vs3 _ _ =>
    [memoryAt s 6 vs3 nf]
  | .vsuxei64_v _ nf vs3 _ vs2 | .vsoxei64_v _ nf vs3 _ vs2 =>
    [⟨vs3, s.sew, s.lmulLog, nf⟩, memoryAt s 6 vs2 0]
  | .vl1re8_v vd _ | .vl1re16_v vd _ | .vl1re32_v vd _ | .vl1re64_v vd _ =>
    [whole 0 vd]
  | .vs1r_v vs3 _ =>
    [whole 0 vs3]
  | .vl2re8_v vd _ | .vl2re16_v vd _ | .vl2re32_v vd _ | .vl2re64_v vd _ =>
    [whole 1 vd]
  | .vs2r_v vs3 _ =>
    [whole 1 vs3]
  | .vl4re8_v vd _ | .vl4re16_v vd _ | .vl4re32_v vd _ | .vl4re64_v vd _ =>
    [whole 2 vd]
  | .vs4r_v vs3 _ =>
    [whole 2 vs3]
  | .vl8re8_v vd _ | .vl8re16_v vd _ | .vl8re32_v vd _ | .vl8re64_v vd _ =>
    [whole 3 vd]
  | .vs8r_v vs3 _ =>
    [whole 3 vs3]
  | .vlm_v _ _ | .vsm_v _ _ =>
    []

/-- Every operand passes `CheckOperand` (41_shape R456). -/
def legal (s : State) (i : Instr) : Bool := (operands s i).all Shape.ok

/-- The conditions under which a command runs: a state that keeps the invariant, an instruction whose fields fit, the typing
precondition (10_state R112), and legal shapes (41_shape R451). -/
def Ready (s : State) (i : Instr) : Prop := s.inv = true ∧ i.wf = true ∧ s.typingOk = true ∧ legal s i = true

/-! ### Completion with a frame -/

/-- The bytes of the elements in `[vstart, vl)` of a `w`-bit destination (40_element_engine R401, R411). -/
def destination (s : State) (w vd : Nat) : List Nat := (elements s).flatMap (elemBytes s.cfg w vd)

/-- The register file and its marks are unchanged outside the bytes `regs`. -/
def KeepsRegisters (s : State) (v : View) (regs : List Nat) : Prop :=
  ∀ a, a ∉ regs → Memory.read v.vrf a = Memory.read s.vrf a ∧ Memory.read v.marks a = Memory.read s.vrfWritten a

/-- The command completes with the changes of `v`; it makes no memory call and changes no byte of memory, and no byte of the
register file outside `regs`. -/
def Done (s : State) (o : Host.Outcome State Fault Refusal) (v : View) (regs : List Nat) : Prop :=
  Completes s o v ∧ v.mem = s.mem ∧ v.trace = s.trace ∧ KeepsRegisters s v regs

/-! ### What a class does to one element -/

/-- A two-operand instruction: `f` takes `op2` and `op1`, and says whether `vxsat` is set. -/
structure Binary where
  vm : Bool
  vd : Nat
  vs2 : Nat
  src : Src
  w2 : Nat
  w1 : Nat
  wd : Nat
  f : BitVec w2 → BitVec w1 → BitVec wd × Bool

def Binary.run (s : State) (r : Binary) : View :=
  loop s (active s r.vm) (binary s r.w2 r.w1 r.wd r.vd r.vs2 r.src r.f)

/-- A one-operand instruction. -/
structure Unary where
  vm : Bool
  vd : Nat
  vs2 : Nat
  w2 : Nat
  wd : Nat
  f : BitVec w2 → BitVec wd

def Unary.run (s : State) (r : Unary) : View := loop s (active s r.vm) (unary s r.w2 r.wd r.vd r.vs2 r.f)

/-- A multiply-add: `f` takes `op1`, `op2` and the old element of `vd`. -/
structure Ternary where
  vm : Bool
  vd : Nat
  vs2 : Nat
  src : Src
  w : Nat
  wd : Nat
  f : BitVec w → BitVec w → BitVec wd → BitVec wd

def Ternary.run (s : State) (r : Ternary) : View := loop s (active s r.vm) (ternary s r.w r.wd r.vd r.vs2 r.src r.f)

/-- An addition or subtraction with the carry of `v0`: every element is active. -/
structure Carry where
  vd : Nat
  vs2 : Nat
  src : Src
  w : Nat
  f : BitVec w → BitVec w → Bool → BitVec w

def Carry.run (s : State) (r : Carry) : View := loop s (fun _ _ => true) (carried s r.w r.vd r.vs2 r.src r.f)

/-- A reduction: `f` takes the accumulator and an element. -/
structure Reduction where
  vm : Bool
  vd : Nat
  vs2 : Nat
  vs1 : Nat
  aw : Nat
  w : Nat
  f : BitVec aw → BitVec w → BitVec aw

def Reduction.run (s : State) (r : Reduction) : View := reduced s r.w r.aw r.vm r.vd r.vs2 r.vs1 r.f

/-- A gather or slide. -/
structure Permutation where
  vm : Bool
  vd : Nat
  body : Nat → View → View

def Permutation.run (s : State) (r : Permutation) : View := loop s (active s r.vm) r.body

/-- A mask-producing instruction: `test` takes `op2`, `op1` and the carry-in, which is 0 unless `carry` is set. -/
structure MaskRow where
  vm : Bool
  carry : Bool
  vd : Nat
  vs2 : Nat
  src : Src
  w : Nat
  test : BitVec w → BitVec w → Bool → Bool

/-- The bit written for element `ei` (49_compare_mask R1101). -/
def MaskRow.bit (s : State) (r : MaskRow) (m : MaskView) (ei : Nat) : Bool :=
  r.test (elem s.cfg m.vrf r.w r.vs2 ei) (op1 s r.w r.src ⟨m.vrf, m.marks, s.vxsat, s.mem, s.trace⟩ ei)
    (r.carry && maskBit s.cfg m.vrf 0 ei)

def MaskRow.run (s : State) (r : MaskRow) : MaskView :=
  runOver (fun m ei => r.vm || maskBit s.cfg m.vrf 0 ei) (fun ei m => m.put s r.vd ei (r.bit s m ei)) (elements s) (maskView s)

/-- The bytes of `vd` that hold the mask bits of elements in `[vstart, vl)` (40_element_engine R403). -/
def maskDestination (s : State) (vd : Nat) : List Nat := (elements s).map (fun ei => vd * s.cfg.vlenb + ei / 8)

/-! ### Element functions -/

/-- Zero extension (00_scope R14). -/
def zext {n m : Nat} (b : BitVec n) : BitVec m := BitVec.setWidth m b

/-- Sign extension (00_scope R14). -/
def sext {n m : Nat} (b : BitVec n) : BitVec m := BitVec.signExtend m b

/-- The shift amount `uint(op1) & (w - 1)` (43_alu R616, 44 R730). -/
def amount {n : Nat} (w : Nat) (a : BitVec n) : Nat := a.toNat &&& (w - 1)

/-- The high half of a double-width product (46 R910). -/
def high {w : Nat} (p : BitVec (2 * w)) : BitVec w := p.extractLsb' w w

/-- Unsigned clamp and whether it clamped (45_fixed_point R804). -/
def clampU (w : Nat) (z : Int) : BitVec w × Bool :=
  if 2 ^ w ≤ z then (BitVec.allOnes w, true) else if z < 0 then (0, true) else (BitVec.ofInt w z, false)

/-- Signed clamp and whether it clamped (45_fixed_point R804). -/
def clampS (w : Nat) (z : Int) : BitVec w × Bool :=
  if 2 ^ (w - 1) ≤ z then (BitVec.intMax w, true) else if z < -2 ^ (w - 1) then (BitVec.intMin w, true)
  else (BitVec.ofInt w z, false)

/-- A clip: it clamps only under `NCLIP_SATURATES` (45_fixed_point R850, R851). -/
def clip (s : State) (clamp : (w : Nat) → Int → BitVec w × Bool) (z : Int) : BitVec s.sew × Bool :=
  if s.cfg.nclipSaturates then clamp s.sew z else (BitVec.ofInt s.sew z, false)

/-- The carry-out of `op2 + op1 + c` (49_compare_mask R1120). -/
def carries {w : Nat} (b a : BitVec w) (c : Bool) : Bool := 2 ^ w ≤ b.toNat + a.toNat + c.toNat

/-- The borrow-out of `op2 - op1 - c` (49_compare_mask R1121). -/
def borrows {w : Nat} (b a : BitVec w) (c : Bool) : Bool := b.toNat < a.toNat + c.toNat

def sameSat (s : State) (vm : Bool) (vd vs2 : Nat) (src : Src) (f : BitVec s.sew → BitVec s.sew → BitVec s.sew × Bool) :
    Option Binary := some ⟨vm, vd, vs2, src, s.sew, s.sew, s.sew, f⟩

def same (s : State) (vm : Bool) (vd vs2 : Nat) (src : Src) (f : BitVec s.sew → BitVec s.sew → BitVec s.sew) :
    Option Binary := sameSat s vm vd vs2 src (fun b a => (f b a, false))

def widened (s : State) (vm : Bool) (vd vs2 : Nat) (src : Src) (f : BitVec s.sew → BitVec s.sew → BitVec (2 * s.sew)) :
    Option Binary := some ⟨vm, vd, vs2, src, s.sew, s.sew, 2 * s.sew, fun b a => (f b a, false)⟩

def wideFirst (s : State) (vm : Bool) (vd vs2 : Nat) (src : Src)
    (f : BitVec (2 * s.sew) → BitVec s.sew → BitVec (2 * s.sew)) : Option Binary :=
  some ⟨vm, vd, vs2, src, 2 * s.sew, s.sew, 2 * s.sew, fun b a => (f b a, false)⟩

def narrowed (s : State) (vm : Bool) (vd vs2 : Nat) (src : Src) (f : BitVec (2 * s.sew) → BitVec s.sew → BitVec s.sew × Bool) :
    Option Binary := some ⟨vm, vd, vs2, src, 2 * s.sew, s.sew, s.sew, f⟩

/-! ### The tables -/

/-- `vadd`, `vsub`, `vrsub`, `vminu`, `vmin`, `vmaxu`, `vmax`, `vmul` (43_alu R610 to R612, R619 to R623). -/
def addRows (s : State) : Instr → Option Binary
  | .vadd_vv vm vd vs2 vs1 => same s vm vd vs2 (.vec vs1) (fun b a => b + a)
  | .vadd_vx vm vd vs2 rs1 => same s vm vd vs2 (.scalar rs1) (fun b a => b + a)
  | .vadd_vi vm vd vs2 imm5 => same s vm vd vs2 (.simm imm5) (fun b a => b + a)
  | .vsub_vv vm vd vs2 vs1 => same s vm vd vs2 (.vec vs1) (fun b a => b - a)
  | .vsub_vx vm vd vs2 rs1 => same s vm vd vs2 (.scalar rs1) (fun b a => b - a)
  | .vrsub_vx vm vd vs2 rs1 => same s vm vd vs2 (.scalar rs1) (fun b a => a - b)
  | .vrsub_vi vm vd vs2 imm5 => same s vm vd vs2 (.simm imm5) (fun b a => a - b)
  | .vminu_vv vm vd vs2 vs1 => same s vm vd vs2 (.vec vs1) (fun b a => if b.toNat ≤ a.toNat then b else a)
  | .vminu_vx vm vd vs2 rs1 => same s vm vd vs2 (.scalar rs1) (fun b a => if b.toNat ≤ a.toNat then b else a)
  | .vmin_vv vm vd vs2 vs1 => same s vm vd vs2 (.vec vs1) (fun b a => if b.toInt ≤ a.toInt then b else a)
  | .vmin_vx vm vd vs2 rs1 => same s vm vd vs2 (.scalar rs1) (fun b a => if b.toInt ≤ a.toInt then b else a)
  | .vmaxu_vv vm vd vs2 vs1 => same s vm vd vs2 (.vec vs1) (fun b a => if a.toNat ≤ b.toNat then b else a)
  | .vmaxu_vx vm vd vs2 rs1 => same s vm vd vs2 (.scalar rs1) (fun b a => if a.toNat ≤ b.toNat then b else a)
  | .vmax_vv vm vd vs2 vs1 => same s vm vd vs2 (.vec vs1) (fun b a => if a.toInt ≤ b.toInt then b else a)
  | .vmax_vx vm vd vs2 rs1 => same s vm vd vs2 (.scalar rs1) (fun b a => if a.toInt ≤ b.toInt then b else a)
  | .vmul_vv vm vd vs2 vs1 => same s vm vd vs2 (.vec vs1) (fun b a => b * a)
  | .vmul_vx vm vd vs2 rs1 => same s vm vd vs2 (.scalar rs1) (fun b a => b * a)
  | _ => none

/-- Bitwise logic and shifts (43_alu R613 to R618). -/
def logicRows (s : State) : Instr → Option Binary
  | .vand_vv vm vd vs2 vs1 => same s vm vd vs2 (.vec vs1) (fun b a => b &&& a)
  | .vand_vx vm vd vs2 rs1 => same s vm vd vs2 (.scalar rs1) (fun b a => b &&& a)
  | .vand_vi vm vd vs2 imm5 => same s vm vd vs2 (.simm imm5) (fun b a => b &&& a)
  | .vor_vv vm vd vs2 vs1 => same s vm vd vs2 (.vec vs1) (fun b a => b ||| a)
  | .vor_vx vm vd vs2 rs1 => same s vm vd vs2 (.scalar rs1) (fun b a => b ||| a)
  | .vor_vi vm vd vs2 imm5 => same s vm vd vs2 (.simm imm5) (fun b a => b ||| a)
  | .vxor_vv vm vd vs2 vs1 => same s vm vd vs2 (.vec vs1) (fun b a => b ^^^ a)
  | .vxor_vx vm vd vs2 rs1 => same s vm vd vs2 (.scalar rs1) (fun b a => b ^^^ a)
  | .vxor_vi vm vd vs2 imm5 => same s vm vd vs2 (.simm imm5) (fun b a => b ^^^ a)
  | .vsll_vv vm vd vs2 vs1 => same s vm vd vs2 (.vec vs1) (fun b a => b <<< amount s.sew a)
  | .vsll_vx vm vd vs2 rs1 => same s vm vd vs2 (.scalar rs1) (fun b a => b <<< amount s.sew a)
  | .vsll_vi vm vd vs2 imm5 => same s vm vd vs2 (.uimm imm5) (fun b a => b <<< amount s.sew a)
  | .vsrl_vv vm vd vs2 vs1 => same s vm vd vs2 (.vec vs1) (fun b a => b >>> amount s.sew a)
  | .vsrl_vx vm vd vs2 rs1 => same s vm vd vs2 (.scalar rs1) (fun b a => b >>> amount s.sew a)
  | .vsrl_vi vm vd vs2 imm5 => same s vm vd vs2 (.uimm imm5) (fun b a => b >>> amount s.sew a)
  | .vsra_vv vm vd vs2 vs1 => same s vm vd vs2 (.vec vs1) (fun b a => b.sshiftRight (amount s.sew a))
  | .vsra_vx vm vd vs2 rs1 => same s vm vd vs2 (.scalar rs1) (fun b a => b.sshiftRight (amount s.sew a))
  | .vsra_vi vm vd vs2 imm5 => same s vm vd vs2 (.uimm imm5) (fun b a => b.sshiftRight (amount s.sew a))
  | _ => none

/-- The multiply-add family; `f` takes `op1`, `op2`, the old `vd` (43_alu R624 to R627). -/
def multiplyAddRows (s : State) : Instr → Option Ternary
  | .vmadd_vv vm vd vs2 vs1 => some ⟨vm, vd, vs2, .vec vs1, s.sew, s.sew, fun a b acc => a * acc + b⟩
  | .vmadd_vx vm vd vs2 rs1 => some ⟨vm, vd, vs2, .scalar rs1, s.sew, s.sew, fun a b acc => a * acc + b⟩
  | .vnmsub_vv vm vd vs2 vs1 => some ⟨vm, vd, vs2, .vec vs1, s.sew, s.sew, fun a b acc => b - a * acc⟩
  | .vnmsub_vx vm vd vs2 rs1 => some ⟨vm, vd, vs2, .scalar rs1, s.sew, s.sew, fun a b acc => b - a * acc⟩
  | .vmacc_vv vm vd vs2 vs1 => some ⟨vm, vd, vs2, .vec vs1, s.sew, s.sew, fun a b acc => a * b + acc⟩
  | .vmacc_vx vm vd vs2 rs1 => some ⟨vm, vd, vs2, .scalar rs1, s.sew, s.sew, fun a b acc => a * b + acc⟩
  | .vnmsac_vv vm vd vs2 vs1 => some ⟨vm, vd, vs2, .vec vs1, s.sew, s.sew, fun a b acc => acc - a * b⟩
  | .vnmsac_vx vm vd vs2 rs1 => some ⟨vm, vd, vs2, .scalar rs1, s.sew, s.sew, fun a b acc => acc - a * b⟩
  | _ => none

/-- Add and subtract with carry (43_alu R628, R629). -/
def carryRows (s : State) : Instr → Option Carry
  | .vadc_vvm vd vs2 vs1 => some ⟨vd, vs2, .vec vs1, s.sew, fun b a c => b + a + BitVec.ofNat _ c.toNat⟩
  | .vadc_vxm vd vs2 rs1 => some ⟨vd, vs2, .scalar rs1, s.sew, fun b a c => b + a + BitVec.ofNat _ c.toNat⟩
  | .vadc_vim vd vs2 imm5 => some ⟨vd, vs2, .simm imm5, s.sew, fun b a c => b + a + BitVec.ofNat _ c.toNat⟩
  | .vsbc_vvm vd vs2 vs1 => some ⟨vd, vs2, .vec vs1, s.sew, fun b a c => b - a - BitVec.ofNat _ c.toNat⟩
  | .vsbc_vxm vd vs2 rs1 => some ⟨vd, vs2, .scalar rs1, s.sew, fun b a c => b - a - BitVec.ofNat _ c.toNat⟩
  | _ => none

/-- The widening add, subtract and multiply; the `.w` forms have a wide `op2` (44 R710 to R720). -/
def wideningRows (s : State) : Instr → Option Binary
  | .vwaddu_vv vm vd vs2 vs1 => widened s vm vd vs2 (.vec vs1) (fun b a => zext b + zext a)
  | .vwaddu_vx vm vd vs2 rs1 => widened s vm vd vs2 (.scalar rs1) (fun b a => zext b + zext a)
  | .vwadd_vv vm vd vs2 vs1 => widened s vm vd vs2 (.vec vs1) (fun b a => sext b + sext a)
  | .vwadd_vx vm vd vs2 rs1 => widened s vm vd vs2 (.scalar rs1) (fun b a => sext b + sext a)
  | .vwsubu_vv vm vd vs2 vs1 => widened s vm vd vs2 (.vec vs1) (fun b a => zext b - zext a)
  | .vwsubu_vx vm vd vs2 rs1 => widened s vm vd vs2 (.scalar rs1) (fun b a => zext b - zext a)
  | .vwsub_vv vm vd vs2 vs1 => widened s vm vd vs2 (.vec vs1) (fun b a => sext b - sext a)
  | .vwsub_vx vm vd vs2 rs1 => widened s vm vd vs2 (.scalar rs1) (fun b a => sext b - sext a)
  | .vwaddu_wv vm vd vs2 vs1 => wideFirst s vm vd vs2 (.vec vs1) (fun b a => b + zext a)
  | .vwaddu_wx vm vd vs2 rs1 => wideFirst s vm vd vs2 (.scalar rs1) (fun b a => b + zext a)
  | .vwadd_wv vm vd vs2 vs1 => wideFirst s vm vd vs2 (.vec vs1) (fun b a => b + sext a)
  | .vwadd_wx vm vd vs2 rs1 => wideFirst s vm vd vs2 (.scalar rs1) (fun b a => b + sext a)
  | .vwsubu_wv vm vd vs2 vs1 => wideFirst s vm vd vs2 (.vec vs1) (fun b a => b - zext a)
  | .vwsubu_wx vm vd vs2 rs1 => wideFirst s vm vd vs2 (.scalar rs1) (fun b a => b - zext a)
  | .vwsub_wv vm vd vs2 vs1 => wideFirst s vm vd vs2 (.vec vs1) (fun b a => b - sext a)
  | .vwsub_wx vm vd vs2 rs1 => wideFirst s vm vd vs2 (.scalar rs1) (fun b a => b - sext a)
  | .vwmulu_vv vm vd vs2 vs1 => widened s vm vd vs2 (.vec vs1) (fun b a => zext b * zext a)
  | .vwmulu_vx vm vd vs2 rs1 => widened s vm vd vs2 (.scalar rs1) (fun b a => zext b * zext a)
  | .vwmulsu_vv vm vd vs2 vs1 => widened s vm vd vs2 (.vec vs1) (fun b a => sext b * zext a)
  | .vwmulsu_vx vm vd vs2 rs1 => widened s vm vd vs2 (.scalar rs1) (fun b a => sext b * zext a)
  | .vwmul_vv vm vd vs2 vs1 => widened s vm vd vs2 (.vec vs1) (fun b a => sext b * sext a)
  | .vwmul_vx vm vd vs2 rs1 => widened s vm vd vs2 (.scalar rs1) (fun b a => sext b * sext a)
  | _ => none

/-- The widening multiply-add family (44 R721 to R724). -/
def wideningMultiplyAddRows (s : State) : Instr → Option Ternary
  | .vwmaccu_vv vm vd vs2 vs1 => some ⟨vm, vd, vs2, .vec vs1, s.sew, 2 * s.sew, fun a b acc => zext a * zext b + acc⟩
  | .vwmaccu_vx vm vd vs2 rs1 => some ⟨vm, vd, vs2, .scalar rs1, s.sew, 2 * s.sew, fun a b acc => zext a * zext b + acc⟩
  | .vwmacc_vv vm vd vs2 vs1 => some ⟨vm, vd, vs2, .vec vs1, s.sew, 2 * s.sew, fun a b acc => sext a * sext b + acc⟩
  | .vwmacc_vx vm vd vs2 rs1 => some ⟨vm, vd, vs2, .scalar rs1, s.sew, 2 * s.sew, fun a b acc => sext a * sext b + acc⟩
  | .vwmaccus_vx vm vd vs2 rs1 => some ⟨vm, vd, vs2, .scalar rs1, s.sew, 2 * s.sew, fun a b acc => zext a * sext b + acc⟩
  | .vwmaccsu_vv vm vd vs2 vs1 => some ⟨vm, vd, vs2, .vec vs1, s.sew, 2 * s.sew, fun a b acc => sext a * zext b + acc⟩
  | .vwmaccsu_vx vm vd vs2 rs1 => some ⟨vm, vd, vs2, .scalar rs1, s.sew, 2 * s.sew, fun a b acc => sext a * zext b + acc⟩
  | _ => none

/-- The narrowing shifts (44 R730, R731). -/
def narrowingRows (s : State) : Instr → Option Binary
  | .vnsrl_wv vm vd vs2 vs1 => narrowed s vm vd vs2 (.vec vs1) (fun b a => ((b >>> amount (2 * s.sew) a).setWidth s.sew, false))
  | .vnsrl_wx vm vd vs2 rs1 => narrowed s vm vd vs2 (.scalar rs1) (fun b a => ((b >>> amount (2 * s.sew) a).setWidth s.sew, false))
  | .vnsrl_wi vm vd vs2 imm5 => narrowed s vm vd vs2 (.uimm imm5) (fun b a => ((b >>> amount (2 * s.sew) a).setWidth s.sew, false))
  | .vnsra_wv vm vd vs2 vs1 => narrowed s vm vd vs2 (.vec vs1) (fun b a => ((b.sshiftRight (amount (2 * s.sew) a)).setWidth s.sew, false))
  | .vnsra_wx vm vd vs2 rs1 => narrowed s vm vd vs2 (.scalar rs1) (fun b a => ((b.sshiftRight (amount (2 * s.sew) a)).setWidth s.sew, false))
  | .vnsra_wi vm vd vs2 imm5 => narrowed s vm vd vs2 (.uimm imm5) (fun b a => ((b.sshiftRight (amount (2 * s.sew) a)).setWidth s.sew, false))
  | _ => none

/-- The extensions by 2, 4 and 8 (44 R740 to R745). -/
def extensionRows (s : State) : Instr → Option Unary
  | .vzext_vf8 vm vd vs2 => some ⟨vm, vd, vs2, s.sew / 8, s.sew, fun b => zext b⟩
  | .vsext_vf8 vm vd vs2 => some ⟨vm, vd, vs2, s.sew / 8, s.sew, fun b => sext b⟩
  | .vzext_vf4 vm vd vs2 => some ⟨vm, vd, vs2, s.sew / 4, s.sew, fun b => zext b⟩
  | .vsext_vf4 vm vd vs2 => some ⟨vm, vd, vs2, s.sew / 4, s.sew, fun b => sext b⟩
  | .vzext_vf2 vm vd vs2 => some ⟨vm, vd, vs2, s.sew / 2, s.sew, fun b => zext b⟩
  | .vsext_vf2 vm vd vs2 => some ⟨vm, vd, vs2, s.sew / 2, s.sew, fun b => sext b⟩
  | _ => none

/-- The saturating adds and subtracts (45_fixed_point R810 to R813). -/
def saturatingRows (s : State) : Instr → Option Binary
  | .vsaddu_vv vm vd vs2 vs1 => sameSat s vm vd vs2 (.vec vs1) (fun b a => clampU s.sew ((b.toNat : Int) + a.toNat))
  | .vsaddu_vx vm vd vs2 rs1 => sameSat s vm vd vs2 (.scalar rs1) (fun b a => clampU s.sew ((b.toNat : Int) + a.toNat))
  | .vsaddu_vi vm vd vs2 imm5 => sameSat s vm vd vs2 (.simm imm5) (fun b a => clampU s.sew ((b.toNat : Int) + a.toNat))
  | .vsadd_vv vm vd vs2 vs1 => sameSat s vm vd vs2 (.vec vs1) (fun b a => clampS s.sew (b.toInt + a.toInt))
  | .vsadd_vx vm vd vs2 rs1 => sameSat s vm vd vs2 (.scalar rs1) (fun b a => clampS s.sew (b.toInt + a.toInt))
  | .vsadd_vi vm vd vs2 imm5 => sameSat s vm vd vs2 (.simm imm5) (fun b a => clampS s.sew (b.toInt + a.toInt))
  | .vssubu_vv vm vd vs2 vs1 => sameSat s vm vd vs2 (.vec vs1) (fun b a => clampU s.sew ((b.toNat : Int) - a.toNat))
  | .vssubu_vx vm vd vs2 rs1 => sameSat s vm vd vs2 (.scalar rs1) (fun b a => clampU s.sew ((b.toNat : Int) - a.toNat))
  | .vssub_vv vm vd vs2 vs1 => sameSat s vm vd vs2 (.vec vs1) (fun b a => clampS s.sew (b.toInt - a.toInt))
  | .vssub_vx vm vd vs2 rs1 => sameSat s vm vd vs2 (.scalar rs1) (fun b a => clampS s.sew (b.toInt - a.toInt))
  | _ => none

/-- The averaging adds and subtracts and the scaling shifts, rounded by `vxrm` (45_fixed_point R820 to R823, R840, R841). -/
def averagingRows (s : State) : Instr → Option Binary
  | .vssrl_vv vm vd vs2 vs1 => same s vm vd vs2 (.vec vs1) (fun b a => BitVec.ofInt _ (roundoff b.toNat (amount s.sew a) s.vxrm))
  | .vssrl_vx vm vd vs2 rs1 => same s vm vd vs2 (.scalar rs1) (fun b a => BitVec.ofInt _ (roundoff b.toNat (amount s.sew a) s.vxrm))
  | .vssrl_vi vm vd vs2 imm5 => same s vm vd vs2 (.uimm imm5) (fun b a => BitVec.ofInt _ (roundoff b.toNat (amount s.sew a) s.vxrm))
  | .vssra_vv vm vd vs2 vs1 => same s vm vd vs2 (.vec vs1) (fun b a => BitVec.ofInt _ (roundoff b.toInt (amount s.sew a) s.vxrm))
  | .vssra_vx vm vd vs2 rs1 => same s vm vd vs2 (.scalar rs1) (fun b a => BitVec.ofInt _ (roundoff b.toInt (amount s.sew a) s.vxrm))
  | .vssra_vi vm vd vs2 imm5 => same s vm vd vs2 (.uimm imm5) (fun b a => BitVec.ofInt _ (roundoff b.toInt (amount s.sew a) s.vxrm))
  | .vaaddu_vv vm vd vs2 vs1 => same s vm vd vs2 (.vec vs1) (fun b a => BitVec.ofInt _ (roundoff ((b.toNat : Int) + a.toNat) 1 s.vxrm))
  | .vaaddu_vx vm vd vs2 rs1 => same s vm vd vs2 (.scalar rs1) (fun b a => BitVec.ofInt _ (roundoff ((b.toNat : Int) + a.toNat) 1 s.vxrm))
  | .vaadd_vv vm vd vs2 vs1 => same s vm vd vs2 (.vec vs1) (fun b a => BitVec.ofInt _ (roundoff (b.toInt + a.toInt) 1 s.vxrm))
  | .vaadd_vx vm vd vs2 rs1 => same s vm vd vs2 (.scalar rs1) (fun b a => BitVec.ofInt _ (roundoff (b.toInt + a.toInt) 1 s.vxrm))
  | .vasubu_vv vm vd vs2 vs1 => same s vm vd vs2 (.vec vs1) (fun b a => BitVec.ofInt _ (roundoff ((b.toNat : Int) - a.toNat) 1 s.vxrm))
  | .vasubu_vx vm vd vs2 rs1 => same s vm vd vs2 (.scalar rs1) (fun b a => BitVec.ofInt _ (roundoff ((b.toNat : Int) - a.toNat) 1 s.vxrm))
  | .vasub_vv vm vd vs2 vs1 => same s vm vd vs2 (.vec vs1) (fun b a => BitVec.ofInt _ (roundoff (b.toInt - a.toInt) 1 s.vxrm))
  | .vasub_vx vm vd vs2 rs1 => same s vm vd vs2 (.scalar rs1) (fun b a => BitVec.ofInt _ (roundoff (b.toInt - a.toInt) 1 s.vxrm))
  | _ => none

/-- The fractional multiply and the narrowing clips (45_fixed_point R830, R850, R851). -/
def fractionalRows (s : State) : Instr → Option Binary
  | .vsmul_vv vm vd vs2 vs1 => sameSat s vm vd vs2 (.vec vs1) (fun b a => clampS s.sew (roundoff (b.toInt * a.toInt) (s.sew - 1) s.vxrm))
  | .vsmul_vx vm vd vs2 rs1 => sameSat s vm vd vs2 (.scalar rs1) (fun b a => clampS s.sew (roundoff (b.toInt * a.toInt) (s.sew - 1) s.vxrm))
  | .vnclipu_wv vm vd vs2 vs1 => narrowed s vm vd vs2 (.vec vs1) (fun b a => clip s clampU (roundoff b.toNat (amount (2 * s.sew) a) s.vxrm))
  | .vnclipu_wx vm vd vs2 rs1 => narrowed s vm vd vs2 (.scalar rs1) (fun b a => clip s clampU (roundoff b.toNat (amount (2 * s.sew) a) s.vxrm))
  | .vnclipu_wi vm vd vs2 imm5 => narrowed s vm vd vs2 (.uimm imm5) (fun b a => clip s clampU (roundoff b.toNat (amount (2 * s.sew) a) s.vxrm))
  | .vnclip_wv vm vd vs2 vs1 => narrowed s vm vd vs2 (.vec vs1) (fun b a => clip s clampS (roundoff b.toInt (amount (2 * s.sew) a) s.vxrm))
  | .vnclip_wx vm vd vs2 rs1 => narrowed s vm vd vs2 (.scalar rs1) (fun b a => clip s clampS (roundoff b.toInt (amount (2 * s.sew) a) s.vxrm))
  | .vnclip_wi vm vd vs2 imm5 => narrowed s vm vd vs2 (.uimm imm5) (fun b a => clip s clampS (roundoff b.toInt (amount (2 * s.sew) a) s.vxrm))
  | _ => none

/-- Multiply-high, divide and remainder (46 R910 to R923). The quotient of the most negative number by -1 wraps to itself, as
`BitVec.sdiv` has it, and the remainder is 0. -/
def multiplyDivideRows (s : State) : Instr → Option Binary
  | .vdivu_vv vm vd vs2 vs1 => same s vm vd vs2 (.vec vs1) (fun b a => if a = 0 then BitVec.allOnes _ else b / a)
  | .vdivu_vx vm vd vs2 rs1 => same s vm vd vs2 (.scalar rs1) (fun b a => if a = 0 then BitVec.allOnes _ else b / a)
  | .vdiv_vv vm vd vs2 vs1 => same s vm vd vs2 (.vec vs1) (fun b a => if a = 0 then BitVec.allOnes _ else b.sdiv a)
  | .vdiv_vx vm vd vs2 rs1 => same s vm vd vs2 (.scalar rs1) (fun b a => if a = 0 then BitVec.allOnes _ else b.sdiv a)
  | .vremu_vv vm vd vs2 vs1 => same s vm vd vs2 (.vec vs1) (fun b a => if a = 0 then b else b % a)
  | .vremu_vx vm vd vs2 rs1 => same s vm vd vs2 (.scalar rs1) (fun b a => if a = 0 then b else b % a)
  | .vrem_vv vm vd vs2 vs1 => same s vm vd vs2 (.vec vs1) (fun b a => if a = 0 then b else b.srem a)
  | .vrem_vx vm vd vs2 rs1 => same s vm vd vs2 (.scalar rs1) (fun b a => if a = 0 then b else b.srem a)
  | .vmulhu_vv vm vd vs2 vs1 => same s vm vd vs2 (.vec vs1) (fun b a => high (zext b * zext a))
  | .vmulhu_vx vm vd vs2 rs1 => same s vm vd vs2 (.scalar rs1) (fun b a => high (zext b * zext a))
  | .vmulhsu_vv vm vd vs2 vs1 => same s vm vd vs2 (.vec vs1) (fun b a => high (sext b * zext a))
  | .vmulhsu_vx vm vd vs2 rs1 => same s vm vd vs2 (.scalar rs1) (fun b a => high (sext b * zext a))
  | .vmulh_vv vm vd vs2 vs1 => same s vm vd vs2 (.vec vs1) (fun b a => high (sext b * sext a))
  | .vmulh_vx vm vd vs2 rs1 => same s vm vd vs2 (.scalar rs1) (fun b a => high (sext b * sext a))
  | _ => none

/-- The reductions (47_reductions R960 to R971). -/
def reductionRows (s : State) : Instr → Option Reduction
  | .vwredsumu_vs vm vd vs2 vs1 => some ⟨vm, vd, vs2, vs1, 2 * s.sew, s.sew, fun acc x => acc + zext x⟩
  | .vwredsum_vs vm vd vs2 vs1 => some ⟨vm, vd, vs2, vs1, 2 * s.sew, s.sew, fun acc x => acc + sext x⟩
  | .vredsum_vs vm vd vs2 vs1 => some ⟨vm, vd, vs2, vs1, s.sew, s.sew, fun acc x => acc + x⟩
  | .vredand_vs vm vd vs2 vs1 => some ⟨vm, vd, vs2, vs1, s.sew, s.sew, fun acc x => acc &&& x⟩
  | .vredor_vs vm vd vs2 vs1 => some ⟨vm, vd, vs2, vs1, s.sew, s.sew, fun acc x => acc ||| x⟩
  | .vredxor_vs vm vd vs2 vs1 => some ⟨vm, vd, vs2, vs1, s.sew, s.sew, fun acc x => acc ^^^ x⟩
  | .vredminu_vs vm vd vs2 vs1 => some ⟨vm, vd, vs2, vs1, s.sew, s.sew, fun acc x => if x.toNat < acc.toNat then x else acc⟩
  | .vredmin_vs vm vd vs2 vs1 => some ⟨vm, vd, vs2, vs1, s.sew, s.sew, fun acc x => if x.toInt < acc.toInt then x else acc⟩
  | .vredmaxu_vs vm vd vs2 vs1 => some ⟨vm, vd, vs2, vs1, s.sew, s.sew, fun acc x => if acc.toNat < x.toNat then x else acc⟩
  | .vredmax_vs vm vd vs2 vs1 => some ⟨vm, vd, vs2, vs1, s.sew, s.sew, fun acc x => if acc.toInt < x.toInt then x else acc⟩
  | _ => none

/-- Gathers and slides (48_permutation R1010 to R1023). -/
def permutationRows (s : State) : Instr → Option Permutation
  | .vrgather_vv vm vd vs2 vs1 => some ⟨vm, vd, gathered s s.sew vd vs2 (.vec vs1)⟩
  | .vrgather_vx vm vd vs2 rs1 => some ⟨vm, vd, gathered s s.sew vd vs2 (.scalar rs1)⟩
  | .vrgather_vi vm vd vs2 imm5 => some ⟨vm, vd, gathered s s.sew vd vs2 (.uimm imm5)⟩
  | .vslideup_vx vm vd vs2 rs1 => some ⟨vm, vd, slidUp s s.sew vd vs2 (.scalar rs1)⟩
  | .vslideup_vi vm vd vs2 imm5 => some ⟨vm, vd, slidUp s s.sew vd vs2 (.uimm imm5)⟩
  | .vslidedown_vx vm vd vs2 rs1 => some ⟨vm, vd, slidDown s s.sew vd vs2 (.scalar rs1)⟩
  | .vslidedown_vi vm vd vs2 imm5 => some ⟨vm, vd, slidDown s s.sew vd vs2 (.uimm imm5)⟩
  | .vslide1up_vx vm vd vs2 rs1 => some ⟨vm, vd, slidOneUp s s.sew vd vs2 rs1⟩
  | .vslide1down_vx vm vd vs2 rs1 => some ⟨vm, vd, slidOneDown s s.sew vd vs2 rs1⟩
  | _ => none

/-- The compares (49_compare_mask R1110 to R1117). -/
def compareRows (s : State) : Instr → Option MaskRow
  | .vmseq_vv vm vd vs2 vs1 => some ⟨vm, false, vd, vs2, .vec vs1, s.sew, fun b a _ => b == a⟩
  | .vmseq_vx vm vd vs2 rs1 => some ⟨vm, false, vd, vs2, .scalar rs1, s.sew, fun b a _ => b == a⟩
  | .vmseq_vi vm vd vs2 imm5 => some ⟨vm, false, vd, vs2, .simm imm5, s.sew, fun b a _ => b == a⟩
  | .vmsne_vv vm vd vs2 vs1 => some ⟨vm, false, vd, vs2, .vec vs1, s.sew, fun b a _ => b != a⟩
  | .vmsne_vx vm vd vs2 rs1 => some ⟨vm, false, vd, vs2, .scalar rs1, s.sew, fun b a _ => b != a⟩
  | .vmsne_vi vm vd vs2 imm5 => some ⟨vm, false, vd, vs2, .simm imm5, s.sew, fun b a _ => b != a⟩
  | .vmsltu_vv vm vd vs2 vs1 => some ⟨vm, false, vd, vs2, .vec vs1, s.sew, fun b a _ => b.ult a⟩
  | .vmsltu_vx vm vd vs2 rs1 => some ⟨vm, false, vd, vs2, .scalar rs1, s.sew, fun b a _ => b.ult a⟩
  | .vmslt_vv vm vd vs2 vs1 => some ⟨vm, false, vd, vs2, .vec vs1, s.sew, fun b a _ => b.slt a⟩
  | .vmslt_vx vm vd vs2 rs1 => some ⟨vm, false, vd, vs2, .scalar rs1, s.sew, fun b a _ => b.slt a⟩
  | .vmsleu_vv vm vd vs2 vs1 => some ⟨vm, false, vd, vs2, .vec vs1, s.sew, fun b a _ => b.ule a⟩
  | .vmsleu_vx vm vd vs2 rs1 => some ⟨vm, false, vd, vs2, .scalar rs1, s.sew, fun b a _ => b.ule a⟩
  | .vmsleu_vi vm vd vs2 imm5 => some ⟨vm, false, vd, vs2, .simm imm5, s.sew, fun b a _ => b.ule a⟩
  | .vmsle_vv vm vd vs2 vs1 => some ⟨vm, false, vd, vs2, .vec vs1, s.sew, fun b a _ => b.sle a⟩
  | .vmsle_vx vm vd vs2 rs1 => some ⟨vm, false, vd, vs2, .scalar rs1, s.sew, fun b a _ => b.sle a⟩
  | .vmsle_vi vm vd vs2 imm5 => some ⟨vm, false, vd, vs2, .simm imm5, s.sew, fun b a _ => b.sle a⟩
  | .vmsgtu_vx vm vd vs2 rs1 => some ⟨vm, false, vd, vs2, .scalar rs1, s.sew, fun b a _ => a.ult b⟩
  | .vmsgtu_vi vm vd vs2 imm5 => some ⟨vm, false, vd, vs2, .simm imm5, s.sew, fun b a _ => a.ult b⟩
  | .vmsgt_vx vm vd vs2 rs1 => some ⟨vm, false, vd, vs2, .scalar rs1, s.sew, fun b a _ => a.slt b⟩
  | .vmsgt_vi vm vd vs2 imm5 => some ⟨vm, false, vd, vs2, .simm imm5, s.sew, fun b a _ => a.slt b⟩
  | _ => none

/-- The carry-outs and borrow-outs: every element is active, and the `m` forms take `v0` as the carry-in (49_compare_mask R1120,
R1121). -/
def carryOutRows (s : State) : Instr → Option MaskRow
  | .vmadc_vvm vd vs2 vs1 => some ⟨true, true, vd, vs2, .vec vs1, s.sew, fun b a c => carries b a c⟩
  | .vmadc_vxm vd vs2 rs1 => some ⟨true, true, vd, vs2, .scalar rs1, s.sew, fun b a c => carries b a c⟩
  | .vmadc_vim vd vs2 imm5 => some ⟨true, true, vd, vs2, .simm imm5, s.sew, fun b a c => carries b a c⟩
  | .vmadc_vv vd vs2 vs1 => some ⟨true, false, vd, vs2, .vec vs1, s.sew, fun b a c => carries b a c⟩
  | .vmadc_vx vd vs2 rs1 => some ⟨true, false, vd, vs2, .scalar rs1, s.sew, fun b a c => carries b a c⟩
  | .vmadc_vi vd vs2 imm5 => some ⟨true, false, vd, vs2, .simm imm5, s.sew, fun b a c => carries b a c⟩
  | .vmsbc_vvm vd vs2 vs1 => some ⟨true, true, vd, vs2, .vec vs1, s.sew, fun b a c => borrows b a c⟩
  | .vmsbc_vxm vd vs2 rs1 => some ⟨true, true, vd, vs2, .scalar rs1, s.sew, fun b a c => borrows b a c⟩
  | .vmsbc_vv vd vs2 vs1 => some ⟨true, false, vd, vs2, .vec vs1, s.sew, fun b a c => borrows b a c⟩
  | .vmsbc_vx vd vs2 rs1 => some ⟨true, false, vd, vs2, .scalar rs1, s.sew, fun b a c => borrows b a c⟩
  | _ => none

/-- The unit-stride accesses; a fault-only-first load probes (42_memory_access R510, R511, R520). -/
def unitRows (s : State) : Instr → Option Access
  | .vle8_v vm nf vd rs1 => some (unitAccess s .read 3 vm nf vd rs1)
  | .vle8ff_v vm nf vd rs1 => some (unitAccess s .probe 3 vm nf vd rs1)
  | .vse8_v vm nf vs3 rs1 => some (unitAccess s .write 3 vm nf vs3 rs1)
  | .vle16_v vm nf vd rs1 => some (unitAccess s .read 4 vm nf vd rs1)
  | .vle16ff_v vm nf vd rs1 => some (unitAccess s .probe 4 vm nf vd rs1)
  | .vse16_v vm nf vs3 rs1 => some (unitAccess s .write 4 vm nf vs3 rs1)
  | .vle32_v vm nf vd rs1 => some (unitAccess s .read 5 vm nf vd rs1)
  | .vle32ff_v vm nf vd rs1 => some (unitAccess s .probe 5 vm nf vd rs1)
  | .vse32_v vm nf vs3 rs1 => some (unitAccess s .write 5 vm nf vs3 rs1)
  | .vle64_v vm nf vd rs1 => some (unitAccess s .read 6 vm nf vd rs1)
  | .vle64ff_v vm nf vd rs1 => some (unitAccess s .probe 6 vm nf vd rs1)
  | .vse64_v vm nf vs3 rs1 => some (unitAccess s .write 6 vm nf vs3 rs1)
  | _ => none

/-- The strided accesses (42_memory_access R512, R513). -/
def stridedRows (s : State) : Instr → Option Access
  | .vlse8_v vm nf vd rs1 rs2 => some (stridedAccess s .read 3 vm nf vd rs1 rs2)
  | .vsse8_v vm nf vs3 rs1 rs2 => some (stridedAccess s .write 3 vm nf vs3 rs1 rs2)
  | .vlse16_v vm nf vd rs1 rs2 => some (stridedAccess s .read 4 vm nf vd rs1 rs2)
  | .vsse16_v vm nf vs3 rs1 rs2 => some (stridedAccess s .write 4 vm nf vs3 rs1 rs2)
  | .vlse32_v vm nf vd rs1 rs2 => some (stridedAccess s .read 5 vm nf vd rs1 rs2)
  | .vsse32_v vm nf vs3 rs1 rs2 => some (stridedAccess s .write 5 vm nf vs3 rs1 rs2)
  | .vlse64_v vm nf vd rs1 rs2 => some (stridedAccess s .read 6 vm nf vd rs1 rs2)
  | .vsse64_v vm nf vs3 rs1 rs2 => some (stridedAccess s .write 6 vm nf vs3 rs1 rs2)
  | _ => none

/-- The indexed accesses (42_memory_access R514 to R517). -/
def indexedRows (s : State) : Instr → Option Access
  | .vluxei8_v vm nf vd rs1 vs2 => some (indexedAccess s .read 3 vm nf vd rs1 vs2)
  | .vloxei8_v vm nf vd rs1 vs2 => some (indexedAccess s .read 3 vm nf vd rs1 vs2)
  | .vsuxei8_v vm nf vs3 rs1 vs2 => some (indexedAccess s .write 3 vm nf vs3 rs1 vs2)
  | .vsoxei8_v vm nf vs3 rs1 vs2 => some (indexedAccess s .write 3 vm nf vs3 rs1 vs2)
  | .vluxei16_v vm nf vd rs1 vs2 => some (indexedAccess s .read 4 vm nf vd rs1 vs2)
  | .vloxei16_v vm nf vd rs1 vs2 => some (indexedAccess s .read 4 vm nf vd rs1 vs2)
  | .vsuxei16_v vm nf vs3 rs1 vs2 => some (indexedAccess s .write 4 vm nf vs3 rs1 vs2)
  | .vsoxei16_v vm nf vs3 rs1 vs2 => some (indexedAccess s .write 4 vm nf vs3 rs1 vs2)
  | .vluxei32_v vm nf vd rs1 vs2 => some (indexedAccess s .read 5 vm nf vd rs1 vs2)
  | .vloxei32_v vm nf vd rs1 vs2 => some (indexedAccess s .read 5 vm nf vd rs1 vs2)
  | .vsuxei32_v vm nf vs3 rs1 vs2 => some (indexedAccess s .write 5 vm nf vs3 rs1 vs2)
  | .vsoxei32_v vm nf vs3 rs1 vs2 => some (indexedAccess s .write 5 vm nf vs3 rs1 vs2)
  | .vluxei64_v vm nf vd rs1 vs2 => some (indexedAccess s .read 6 vm nf vd rs1 vs2)
  | .vloxei64_v vm nf vd rs1 vs2 => some (indexedAccess s .read 6 vm nf vd rs1 vs2)
  | .vsuxei64_v vm nf vs3 rs1 vs2 => some (indexedAccess s .write 6 vm nf vs3 rs1 vs2)
  | .vsoxei64_v vm nf vs3 rs1 vs2 => some (indexedAccess s .write 6 vm nf vs3 rs1 vs2)
  | _ => none

/-- The byte-granular accesses and how many bytes they move: whole registers and masks (42_memory_access R525 to R531). -/
def byteRows (s : State) : Instr → Option (Access × Nat)
  | .vl1re8_v vd rs1 => some (byteAccess s .read vd rs1, s.cfg.vlenb * 1)
  | .vl1re16_v vd rs1 => some (byteAccess s .read vd rs1, s.cfg.vlenb * 1)
  | .vl1re32_v vd rs1 => some (byteAccess s .read vd rs1, s.cfg.vlenb * 1)
  | .vl1re64_v vd rs1 => some (byteAccess s .read vd rs1, s.cfg.vlenb * 1)
  | .vs1r_v vs3 rs1 => some (byteAccess s .write vs3 rs1, s.cfg.vlenb * 1)
  | .vl2re8_v vd rs1 => some (byteAccess s .read vd rs1, s.cfg.vlenb * 2)
  | .vl2re16_v vd rs1 => some (byteAccess s .read vd rs1, s.cfg.vlenb * 2)
  | .vl2re32_v vd rs1 => some (byteAccess s .read vd rs1, s.cfg.vlenb * 2)
  | .vl2re64_v vd rs1 => some (byteAccess s .read vd rs1, s.cfg.vlenb * 2)
  | .vs2r_v vs3 rs1 => some (byteAccess s .write vs3 rs1, s.cfg.vlenb * 2)
  | .vl4re8_v vd rs1 => some (byteAccess s .read vd rs1, s.cfg.vlenb * 4)
  | .vl4re16_v vd rs1 => some (byteAccess s .read vd rs1, s.cfg.vlenb * 4)
  | .vl4re32_v vd rs1 => some (byteAccess s .read vd rs1, s.cfg.vlenb * 4)
  | .vl4re64_v vd rs1 => some (byteAccess s .read vd rs1, s.cfg.vlenb * 4)
  | .vs4r_v vs3 rs1 => some (byteAccess s .write vs3 rs1, s.cfg.vlenb * 4)
  | .vl8re8_v vd rs1 => some (byteAccess s .read vd rs1, s.cfg.vlenb * 8)
  | .vl8re16_v vd rs1 => some (byteAccess s .read vd rs1, s.cfg.vlenb * 8)
  | .vl8re32_v vd rs1 => some (byteAccess s .read vd rs1, s.cfg.vlenb * 8)
  | .vl8re64_v vd rs1 => some (byteAccess s .read vd rs1, s.cfg.vlenb * 8)
  | .vs8r_v vs3 rs1 => some (byteAccess s .write vs3 rs1, s.cfg.vlenb * 8)
  | .vlm_v vd rs1 => some (byteAccess s .read vd rs1, (s.vl + 7) / 8)
  | .vsm_v vs3 rs1 => some (byteAccess s .write vs3 rs1, (s.vl + 7) / 8)
  | _ => none

/-! ### Classes over the tables -/

/-- Every two-operand element instruction. -/
def binaryRows (s : State) (i : Instr) : Option Binary :=
  addRows s i <|> logicRows s i <|> wideningRows s i <|> narrowingRows s i <|> saturatingRows s i <|> averagingRows s i
    <|> fractionalRows s i <|> multiplyDivideRows s i

/-- Every masked memory access. -/
def accessRows (s : State) (i : Instr) : Option Access := unitRows s i <|> stridedRows s i <|> indexedRows s i

/-- The instruction reaches memory (20_memory R201). -/
def reachesMemory (s : State) (i : Instr) : Bool := (accessRows s i).isSome || (byteRows s i).isSome

/-- The instruction is a store. -/
def isStore (s : State) (i : Instr) : Bool :=
  (accessRows s i).any (fun a => a.call == .write) || (byteRows s i).any (fun r => r.1.call == .write)

/-- The instruction is a fault-only-first load (42_memory_access R520). -/
def isFirstFault (s : State) (i : Instr) : Bool := (unitRows s i).any (fun a => a.call == .probe)

/-- The instruction may set `vxsat` (10_state R111). -/
def maySaturate (c : Config) : Instr → Bool
  | .vsaddu_vv .. | .vsaddu_vx .. | .vsaddu_vi .. | .vsadd_vv .. | .vsadd_vx .. | .vsadd_vi .. | .vssubu_vv ..
  | .vssubu_vx .. | .vssub_vv .. | .vssub_vx .. | .vsmul_vv .. | .vsmul_vx .. => true
  | .vnclipu_wv .. | .vnclipu_wx .. | .vnclipu_wi .. | .vnclip_wv .. | .vnclip_wx .. | .vnclip_wi .. => c.nclipSaturates
  | _ => false

/-! ### Memory accesses -/

/-- The fields of the elements in `[vstart, vl)` that `on` selects. -/
def fieldsOf (s : State) (a : Access) (on : Nat → Bool) : List (Nat × Nat) :=
  ((elements s).filter on).flatMap (fun ei => (List.range (a.nf + 1)).map (fun fi => (ei, fi)))

/-- The register bytes a load writes: every field of its elements (42_memory_access R502). -/
def loadedBytes (s : State) (a : Access) (fs : List (Nat × Nat)) : List Nat :=
  if a.call = .write then [] else fs.flatMap (fun p => elemBytes s.cfg a.w (a.fieldReg p.2) p.1)

/-- The memory bytes a store writes: every field of its elements, at the address its access gives (42_memory_access R502). -/
def storedBytes (s : State) (a : Access) (fs : List (Nat × Nat)) : List Nat :=
  if a.call = .write then fs.flatMap (fun p => memBytes s (a.addr s.vrf p.1 p.2) (a.w / 8)) else []

/-- The changes of `v` to the register file and to memory are confined to `regs` and `stored`; `vxsat` is unchanged. -/
def Confined (s : State) (v : View) (regs stored : List Nat) : Prop :=
  v.sat = s.vxsat ∧ KeepsRegisters s v regs ∧ ∀ a, a ∉ stored → Memory.read v.mem a = Memory.read s.mem a

/-- The command completes with the changes of `v`, confined to the fields `fs`. -/
def DoneAccess (s : State) (o : Host.Outcome State Fault Refusal) (a : Access) (fs : List (Nat × Nat)) (v : View) : Prop :=
  Completes s o v ∧ Confined s v (loadedBytes s a fs) (storedBytes s a fs)

/-- The command traps at field `fi` of element `ei`: the address of the faulting call is the one its access gives, everything
before the call is done and nothing else, and the changes are confined to the fields `fs` (42_memory_access R505). -/
def TrapsAccess (s : State) (o : Host.Outcome State Fault Refusal) (a : Access) (ei fi : Nat) (kind : FaultKind)
    (fs : List (Nat × Nat)) : Prop :=
  Traps s o ei (a.call == .write) ⟨kind, s.addr (a.addr (upTo s a ei).vrf ei fi)⟩ (faulted s a ei fi kind) ∧
    Confined s (faulted s a ei fi kind) (loadedBytes s a fs) (storedBytes s a fs)

/-- A load whose mask bits and addresses do not depend on the bytes it writes, or a store (42_memory_access R507, 60_exceptions
R1212). -/
def SourcesKept (s : State) (a : Access) : Prop :=
  a.call = .write ∨
    ∀ m, (∀ b, b ∉ loadedBytes s a (fieldsOf s a (fun _ => true)) → Memory.read m b = Memory.read s.vrf b) →
      ∀ ei ∈ elements s, (a.vm || maskBit s.cfg m 0 ei) = (a.vm || maskBit s.cfg s.vrf 0 ei)
        ∧ ∀ fi, fi ≤ a.nf → a.addr m ei fi = a.addr s.vrf ei fi

/-! ### Other terms of the claims -/

/-- The reserved `funct6` values of an operand category, by its `funct3` (OPIVV 0, OPMVV 2, OPIVI 3, OPIVX 4, OPMVX 6): those with
no entry in its column of 30_encoding R340, R341 that are not named there as another instruction (92 D43, 93 item 4; log 15). -/
def reservedFunct6 : Nat → List Nat
  | 0 => [1, 3, 8, 13, 15, 20, 21, 22, 30, 31, 36, 38] ++ List.range' 50 14
  | 2 => [12, 13, 14, 15, 17, 19, 21, 22, 40, 42, 44, 46, 57, 62]
  | 3 => [1, 2, 4, 5, 6, 7, 8, 13, 18, 19, 20, 21, 22, 26, 27, 34, 35, 36, 38] ++ List.range' 48 16
  | 4 => [1, 8, 13, 20, 21, 22, 36, 38] ++ List.range' 48 16
  | 6 => [0, 1, 2, 3, 4, 5, 6, 7, 12, 13, 17, 18, 19, 21, 22, 40, 42, 44, 46, 57]
  | _ => []

/-- The reserved encodings of 30_encoding R351 to R353 and 93 item 4: a reserved `funct6`; a reserved `vm` of `vadc`, `vsbc`, a whole-register or a mask access; a
reserved `nf` or `width`; `mew = 1`; a reserved `lumop` or `sumop`. -/
def reservedWord (f : Fields) : Prop :=
  (f.op = 0x57 ∧ f.funct6 ∈ reservedFunct6 f.f3)
    ∨ (f.op = 0x57 ∧ f.vm = true ∧ f.funct6 = 0b010000 ∧ f.f3 ∈ [0, 3, 4])
    ∨ (f.op = 0x57 ∧ f.vm = true ∧ f.funct6 = 0b010010 ∧ f.f3 ∈ [0, 4])
    ∨ (f.op ∈ [0x07, 0x27] ∧ f.f3 ∈ [0, 5, 6, 7]
        ∧ (f.mew = 1
          ∨ (f.mop = 0
              ∧ (f.f2 ∉ (if f.op = 0x07 then [0, 8, 11, 16] else [0, 8, 11])
                ∨ (f.f2 ∈ [8, 11] ∧ f.vm = false)
                ∨ (f.f2 = 8 ∧ f.nf ∈ [2, 4, 5, 6])
                ∨ (f.f2 = 11 ∧ f.nf ≠ 0)
                ∨ (f.f2 = 8 ∧ f.op = 0x27 ∧ f.f3 ≠ 0)
                ∨ (f.f2 = 11 ∧ f.f3 ≠ 0)))))

/-- LMUL by its encoding; the reserved 100 has none (10_state R106). -/
def lmul (e : BitVec 3) : ℚ :=
  if e = 0 then 1 else if e = 1 then 2 else if e = 2 then 4 else if e = 3 then 8
  else if e = 5 then 1 / 8 else if e = 6 then 1 / 4 else if e = 7 then 1 / 2 else 0

/-- `VLEN` in bits (00_scope R11). -/
def vlen (s : State) : ℚ := 8 * s.cfg.vlenb

/-- `bit(v, k)` of 45_fixed_point R800. -/
def bitOf (v : Int) (k : Nat) : Int := ⌊(v : ℚ) / 2 ^ k⌋ % 2

/-- The increment `r` of 45_fixed_point R800, for a shift of `d >= 1`. -/
def increment (v : Int) (d : Nat) : RoundMode → Int
  | .rnu => bitOf v (d - 1)
  | .rne => if bitOf v (d - 1) = 1 ∧ (bitOf v d = 1 ∨ v % 2 ^ (d - 1) ≠ 0) then 1 else 0
  | .rdn => 0
  | .rod => if bitOf v d = 0 ∧ v % 2 ^ d ≠ 0 then 1 else 0

/-- No element writes a byte that a later element reads: its `vs2` element, its `vs1` element, or its mask bit (70_reset
R1311, R1312). -/
def Separate (s : State) (r : Binary) : Prop :=
  ∀ ei ∈ elements s, ∀ ej ∈ elements s, ei < ej → ∀ a ∈ elemBytes s.cfg r.wd r.vd ei,
    a ∉ elemBytes s.cfg r.w2 r.vs2 ej ∧ (∀ vs1, r.src = .vec vs1 → a ∉ elemBytes s.cfg r.w1 vs1 ej)
      ∧ (r.vm = false → a ≠ ej / 8)

/-- The element function of a two-operand instruction on the operands as the command found them. -/
def Binary.onOriginals (s : State) (r : Binary) (ei : Nat) : BitVec r.wd × Bool :=
  r.f (elem s.cfg s.vrf r.w2 r.vs2 ei) (op1 s r.w1 r.src (view s) ei)

/-! ### The form of a class's results -/

/-- The rows of a table complete with the fold of their element function, write only their destination's elements, and leave
`vxsat` alone. -/
def BinaryResults (rows : State → Instr → Option Binary) : Prop :=
  ∀ (s : State) (i : Instr) (r : Binary), rows s i = some r → Ready s i →
    Done s (exec i s) (r.run s) (destination s r.wd r.vd) ∧ (r.run s).sat = s.vxsat

/-- A mask-producing row completes with the fold of its mask writes, up to the free bits of `agnostic`, and changes no byte but
those that hold the mask bits of its elements. -/
def MaskResults (rows : State → Instr → Option MaskRow) : Prop :=
  ∀ (s : State) (i : Instr) (r : MaskRow), rows s i = some r → Ready s i →
    CompletesMask s (exec i s) r.vd (r.run s)
      ∧ ∀ t, exec i s = .next t → ∀ a, a ∉ maskDestination s r.vd →
          Memory.read t.vrf a = Memory.read s.vrf a ∧ Memory.read t.vrfWritten a = Memory.read s.vrfWritten a

/-- While the memory collaborator answers Ok, a masked access completes with the fold of its fields. A load changes no memory
and only the register bytes of its fields; a store changes no register and only the memory bytes of its fields. -/
def AccessResults (rows : State → Instr → Option Access) : Prop :=
  ∀ (s : State) (i : Instr) (a : Access), rows s i = some a → Ready s i → quiet s →
    DoneAccess s (exec i s) a (fieldsOf s a (fun ei => a.call != .write || active s a.vm (view s) ei))
      (loop s (active s a.vm) (transfer s a))

end Sys2Proof.Claims
end

