-- ==== Sys2Proof/Certificates/Slice0/Obligations.lean ====
section
/-! DEFINITION. The statements for the provers. `Claims.Ready s i` is the hypothesis of a completion: a state that keeps the
invariant, an instruction whose fields fit, the typing precondition, legal shapes. `Reference.Completes` and its kin give the
whole next state, so every field they do not name is unchanged; the one thing they leave open is the model's own bit
`readUnwritten` (log 2), which a statement writes as `bad`. -/

open Sys2Proof Sys2Proof.Machine Sys2Proof.Reference Sys2Proof.Claims

/-! ### Encoding -/

/-- Every well-formed instruction is read back from its word. -/
def Obligations.DecodeEncode : Prop := ∀ i : Instr, i.wf = true → decode (encode i) = .instr i

/-- Every word that decodes to an instruction is that instruction's word, and its fields fit: no bit is dropped and no two
words mean one instruction. -/
def Obligations.EncodeDecode : Prop := ∀ (w : InstrWord) (i : Instr), decode w = .instr i → i.wf = true ∧ encode i = w

/-- A word of each family, written bit by bit from 30_encoding R304 to R312 and the opcode map, decodes to its instruction. -/
def Obligations.WordsDecode : Prop :=
  decode 0b000000_1_00010_00011_000_00001_1010111 = .instr (.vadd_vv true 1 2 3)
    ∧ decode 0b101101_0_00100_01010_110_01000_1010111 = .instr (.vmacc_vx false 8 4 10)
    ∧ decode 0b110101_1_00110_00111_010_00010_1010111 = .instr (.vwadd_wv true 2 6 7)
    ∧ decode 0b010010_1_00100_00101_010_01000_1010111 = .instr (.vsext_vf4 true 8 4)
    ∧ decode 0b101110_1_00100_11111_011_00011_1010111 = .instr (.vnclipu_wi true 3 4 31)
    ∧ decode 0b100001_0_00100_00101_010_00110_1010111 = .instr (.vdiv_vv false 6 4 5)
    ∧ decode 0b110001_1_00100_00101_000_00110_1010111 = .instr (.vwredsum_vs true 6 4 5)
    ∧ decode 0b001111_1_00100_01010_110_00110_1010111 = .instr (.vslide1down_vx true 6 4 10)
    ∧ decode 0b010001_0_00100_00101_000_00110_1010111 = .instr (.vmadc_vvm 6 4 5)
    ∧ decode 0b010_0_00_1_00000_01010_110_00100_0000111 = .instr (.vle32_v true 2 4 10)
    ∧ decode 0b000_0_11_0_01000_01010_101_00100_0100111 = .instr (.vsoxei16_v false 0 4 10 8)
    ∧ decode 0b111_0_00_1_01000_01010_000_01000_0100111 = .instr (.vs8r_v 8 10)

/-- Each reserved encoding of 30_encoding R351 to R353, and each reserved `funct6` (92 D43, 93 item 4; the model follows them, log
15), raises illegal-instruction at the dispatcher, and the engine is not called. The model's choice: delivery in the same step
(log 10) and `xtval` (log 11). -/
def Obligations.ReservedEncodings : Prop :=
  ∀ (s : State) (w : InstrWord), reservedWord (Fields.ofWord w) →
    s.issue w = .error (.next (s.takeTrap .illegalInstruction))

/-! ### The dispatcher -/

/-- With no collaborator action waiting and the vector unit on, a step runs the instruction that the fetched word decodes to;
`exec` itself moves the pc, so nothing is added around it. -/
def Obligations.StepRunsDecoded : Prop :=
  ∀ (s : State) (w : InstrWord) (i : Instr), s.inbox = [] → s.fetch = some w → decode w = .instr i → s.vsOn = true →
    i.wf = true ∧ step s = exec i s

/-- What a step does besides running an instruction: a waiting collaborator action comes first; with no word at the pc, or an
unadmitted word, the model refuses; with the vector unit off, an admitted word raises illegal-instruction. The model's choice: the
order of actions and commands (log 13), the refusal with no word (log 7), that an unadmitted word is refused also with the unit off
(log 16), and the delivery in the same step (log 10). -/
def Obligations.DispatcherOutcomes : Prop :=
  ∀ s : State,
    (∀ a rest, s.inbox = a :: rest → step s = .next ({ s with inbox := rest }.applyAction a))
      ∧ (s.inbox = [] → s.fetch = none → step s = .refused .noCommand)
      ∧ (∀ w u, s.inbox = [] → s.fetch = some w → decode w = .unadmitted u → step s = .refused (.unadmitted u))
      ∧ (∀ w i, s.inbox = [] → s.fetch = some w → decode w = .instr i → s.vsOn = false →
          step s = .next (s.takeTrap .illegalInstruction))

/-- A launch puts word `k` of the program at `a0 + 4k` and starts at `a0`; the host's one-word launch is fetched at the pc. -/
def Obligations.LaunchedProgram : Prop :=
  (∀ (s : State) (a0 k : Nat) (words : List InstrWord) (w : InstrWord), 4 * words.length ≤ s.xmod → words[k]? = some w →
    (s.applyAction (.launch a0 words)).pc = a0 % s.xmod
      ∧ { s.applyAction (.launch a0 words) with pc := s.addr (a0 + 4 * k) }.fetch = some w)
  ∧ ∀ (s : State) (w : Nat), w < 2 ^ 32 → (s.withFetchWord 32 w).fetch = some (BitVec.ofNat 32 w)

/-- The CSR view: what a write leaves for the next read, the aliases of `vcsr`, the fields of `vtype`, and that a write to any
other number changes nothing. -/
def Obligations.CsrViews : Prop :=
  ∀ (s : State) (v : Nat),
    (s.csrWrite 0x008 v).csrRead 0x008 = some (v % s.xmod)
      ∧ (s.csrWrite 0x009 v).csrRead 0x009 = some (v % 2)
      ∧ (s.csrWrite 0x00A v).csrRead 0x00A = some (v % 4)
      ∧ (s.csrWrite 0x00F v).csrRead 0x00F = some (v % 8)
      ∧ (s.csrWrite 0x00F v).csrRead 0x009 = some (v % 2)
      ∧ (s.csrWrite 0x00F v).csrRead 0x00A = some (v / 2 % 4)
      ∧ (∀ n, n ∉ [0x008, 0x009, 0x00A, 0x00F] → s.csrWrite n v = s)
      ∧ s.csrRead 0xC20 = some s.vl
      ∧ s.csrRead 0xC22 = some s.cfg.vlenb
      ∧ ∃ t, s.csrRead 0xC21 = some t ∧ t % 8 = s.vlmul.toNat ∧ t / 8 % 8 = s.vsew.toNat ∧ t.testBit 6 = s.vta
          ∧ t.testBit 7 = s.vma ∧ t.testBit (s.cfg.xlen.bits - 1) = s.vill ∧ t < s.xmod
          ∧ ∀ k, 8 ≤ k → k < s.cfg.xlen.bits - 1 → t.testBit k = false

/-! ### Reset -/

/-- The reset values the spec gives the engine: typing state, flag, hidden state, and no bit of the register file marked as
written. -/
def Obligations.ResetValues : Prop :=
  ∀ c : Config, let s := State.resetOf c
    s.vsew = 0 ∧ s.vlmul = 0 ∧ s.vl = 0 ∧ s.vstart = 0 ∧ s.vxrm = .rnu ∧ s.vxsat = false ∧ s.vta = false ∧ s.vma = false
      ∧ s.vill = false ∧ s.touched = [] ∧ s.ffPending = none ∧ (∀ a, Memory.read s.vrfWritten a = 0)
      ∧ s.sew = 8 ∧ s.vlmax = c.vlenb

/-- The reset state of every legal machine keeps the invariant and meets the typing precondition. -/
def Obligations.ResetInvariant : Prop :=
  (∀ c : Config, c.wf = true → (State.resetOf c).inv = true ∧ (State.resetOf c).typingOk = true)
    ∧ State.reset.inv = true ∧ State.reset.typingOk = true

/-! ### The whole machine -/

/-- Every step keeps the invariant, whatever the instruction, the memory collaborator's answers or the collaborator's
action. -/
def Obligations.StepKeepsInvariant : Prop := ∀ s t : State, s.inv = true → step s = .next t → t.inv = true

/-- No admitted command leaves the register file: after the shape checks no run ends in a model fault; an access outside the
file would. -/
def Obligations.NoModelFault : Prop :=
  (∀ (i : Instr) (s : State) (f : Fault), i.wf = true → s.inv = true → exec i s ≠ .fault f)
    ∧ (∀ (s : State) (f : Fault), s.inv = true → step s ≠ .fault f)
    ∧ ∀ (s : State) (w off : Nat), s.vrfSize < off + w / 8 →
        vreadAt w off s = .error (.fault .vrfOutOfRange)
          ∧ ∀ v, vwriteAt w off v s = .error (.fault .vrfOutOfRange)

/-- A command that gives a next state ended in exactly one of two results: `Done`, with `vstart` 0 and the pc 4 further; or a
trap, delivered: the pc at the trap vector, the saved pc that of the instruction, `vl` unchanged and `vstart` not moved back. -/
def Obligations.CommandResults : Prop :=
  ∀ (i : Instr) (s t : State), i.wf = true → s.inv = true → exec i s = .next t →
    (t.result = some .done ∧ t.vstart = 0 ∧ t.pc = s.addr (s.pc + 4) ∧ t.xepc = s.xepc ∧ t.xcause = s.xcause
        ∧ t.xtval = s.xtval)
      ∨ ∃ tr, t.result = some (.trap tr) ∧ t.pc = s.xtvec ∧ t.xepc = s.pc ∧ t.xcause = tr.cause ∧ t.xtval = s.trapValue tr
          ∧ t.vl = s.vl ∧ s.vstart ≤ t.vstart ∧ (tr = .illegalInstruction → t.vstart = s.vstart)

/-- What no command changes: the parameters, the typing state but `vl`, the rounding mode, the scalar registers, the program and
its launch address, the enable bit, the trap vector, the collaborators' actions; and no hidden state outlives it. -/
def Obligations.EngineKeepsInputs : Prop :=
  ∀ (i : Instr) (s t : State), i.wf = true → s.inv = true → exec i s = .next t →
    t.cfg = s.cfg ∧ t.vsew = s.vsew ∧ t.vlmul = s.vlmul ∧ t.vta = s.vta ∧ t.vma = s.vma ∧ t.vill = s.vill ∧ t.vxrm = s.vxrm
      ∧ t.x = s.x ∧ t.launch = s.launch ∧ t.program = s.program ∧ t.vsOn = s.vsOn ∧ t.xtvec = s.xtvec ∧ t.inbox = s.inbox
      ∧ t.touched = [] ∧ t.maskBits = [] ∧ t.ffPending = none

/-- `vl` changes only when a fault-only-first load completes, and then it becomes the index of an element above 0 that the
command reached. -/
def Obligations.VlOnlyByFirstFault : Prop :=
  ∀ (i : Instr) (s t : State), i.wf = true → s.inv = true → exec i s = .next t → t.vl ≠ s.vl →
    isFirstFault s i = true ∧ t.result = some .done ∧ 0 < t.vl ∧ t.vl ∈ elements s

/-- `vxsat` is sticky, and only the saturating instructions (the clips only under `NCLIP_SATURATES`) can set it. -/
def Obligations.SaturationFlag : Prop :=
  ∀ (i : Instr) (s t : State), i.wf = true → s.inv = true → exec i s = .next t →
    (s.vxsat = true → t.vxsat = true) ∧ (t.vxsat ≠ s.vxsat → maySaturate s.cfg i = true ∧ t.result = some .done)

/-- An instruction that is no load or store makes no memory access. -/
def Obligations.OnlyMemoryInstructionsReachMemory : Prop :=
  ∀ (i : Instr) (s t : State), i.wf = true → s.inv = true → reachesMemory s i = false → exec i s = .next t →
    t.mem = s.mem ∧ t.trace = s.trace ∧ t.answers = s.answers

/-- No operand value makes an arithmetic instruction trap: with legal shapes it is `Done`. -/
def Obligations.ArithmeticNeverTraps : Prop :=
  ∀ (i : Instr) (s : State), Ready s i → reachesMemory s i = false → ∃ t, exec i s = .next t ∧ t.result = some .done

/-- A command is refused for its typing state exactly when the typing precondition fails. -/
def Obligations.TypingPrecondition : Prop :=
  ∀ (i : Instr) (s : State),
    exec i s = .refused .typingState ↔
      ¬ (s.vsew ∈ [0, 1, 2, 3] ∧ s.vlmul ≠ 4 ∧ s.vill = false
          ∧ ∃ n : Nat, (n : ℚ) = lmul s.vlmul * vlen s / (8 * 2 ^ s.vsew.toNat) ∧ 1 ≤ n ∧ s.vl ≤ n)

/-- SEW, LMUL, VLMAX and every EMUL by their definitions, in exact arithmetic. -/
def Obligations.EffectiveWidths : Prop :=
  ∀ s : State, s.typingOk = true →
    (s.sew : ℚ) = 8 * 2 ^ s.vsew.toNat ∧ (2 : ℚ) ^ s.lmulLog = lmul s.vlmul
      ∧ (s.vlmax : ℚ) = lmul s.vlmul * vlen s / s.sew
      ∧ ∀ e : Nat, (2 : ℚ) ^ s.emulLog e = 2 ^ e / s.sew * lmul s.vlmul

/-- `CheckOperand`, with EMUL as an exact number. -/
def Obligations.CheckOperand : Prop :=
  ∀ o : Shape, let emul : ℚ := 2 ^ o.emul
    o.ok = true ↔
      o.eew ∈ [8, 16, 32, 64] ∧ o.eew ≤ 64 ∧ emul ∈ [1 / 8, 1 / 4, 1 / 2, 1, 2, 4, 8]
        ∧ (1 ≤ emul → ∃ k : Nat, (o.reg : ℚ) = k * emul)
        ∧ (o.nf + 1) * emul ≤ 8 ∧ o.reg + (o.nf + 1) * max 1 emul ≤ 32

/-- A failed check of any operand in the table of operands ends the command with illegal-instruction and no write at all. The model's
choice: `xepc`, `xcause` and the pc, delivered in the same step (log 10), and the two values `xtval` may take (log 11). With
every check passed the result is never illegal-instruction. -/
def Obligations.IllegalShapes : Prop :=
  (∀ (i : Instr) (s : State), s.typingOk = true → legal s i = false →
    exec i s = .next { s.clearHidden with
      result := some (.trap .illegalInstruction), xepc := s.pc, xcause := 2
      xtval := if s.cfg.illegalTvalIsWord then (s.fetch.map BitVec.toNat).getD 0 else 0
      pc := s.xtvec })
  ∧ ∀ (i : Instr) (s t : State), Ready s i → exec i s = .next t → t.result ≠ some (.trap .illegalInstruction)

/-- A command with no element or byte left completes and changes nothing but `vstart`, the result and the pc; a reduction still
writes its seed, except with `vl = 0` where `RED_WRITES_EMPTY` is false. -/
def Obligations.NothingLeft : Prop :=
  ∀ (i : Instr) (s : State), Ready s i →
    let finished := { s.clearHidden with vstart := 0, result := some .done, pc := s.addr (s.pc + 4) }
    (reductionRows s i = none → byteRows s i = none → s.vl ≤ s.vstart → exec i s = .next finished)
      ∧ (∀ r, byteRows s i = some r → r.2 ≤ s.vstart → exec i s = .next finished)
      ∧ (∀ r, reductionRows s i = some r → s.vl = 0 → s.cfg.redWritesEmpty = false → exec i s = .next finished)
      ∧ ∀ r, reductionRows s i = some r → s.vl ≤ s.vstart → (0 < s.vl ∨ s.cfg.redWritesEmpty = true) →
          ∃ bad, exec i s = .next { finished with
            vrf := Memory.writeList s.vrf (elemBytes s.cfg r.aw r.vd 0) (elem s.cfg s.vrf r.aw r.vs1 0).toNat
            vrfWritten := Memory.fill s.vrfWritten 0xFF (elemBytes s.cfg r.aw r.vd 0)
            readUnwritten := bad }

/-! ### The machinery -/

/-- The element address translator. -/
def Obligations.ElementAddress : Prop :=
  ∀ (s : State) (reg fi ei eew : Nat) (emul : Int), 8 ∣ eew →
    (s.elemOffset reg fi ei eew emul : ℚ) = (reg + fi * max 1 ((2 : ℚ) ^ emul)) * s.cfg.vlenb + ei * (eew / 8)

/-- An element read gives, as byte `k` of its value, the byte `k` above its offset; an element write puts byte `k` of the value
there and changes no other byte. Both leave the rest of the state alone (a read may set `readUnwritten`, a write marks its
bytes as written; log 2). -/
def Obligations.ElementBytes : Prop :=
  ∀ (s : State) (w reg ei fi : Nat) (emul : Int), 8 ∣ w → Memory.wf s.vrf = true → Memory.wf s.vrfWritten = true →
    let o := s.elemOffset reg fi ei w emul
    o + w / 8 ≤ s.vrfSize →
      (∃ v bad, vreadField w reg ei fi emul s = .ok (v, { s with readUnwritten := bad })
        ∧ ∀ k < w / 8, v.extractLsb' (8 * k) 8 = Memory.read s.vrf (o + k))
      ∧ ∀ v, ∃ vrf marks, vwriteField w reg ei fi emul v s = .ok { s with vrf := vrf, vrfWritten := marks }
        ∧ (∀ k < w / 8, Memory.read vrf (o + k) = v.extractLsb' (8 * k) 8 ∧ Memory.read marks (o + k) = 0xFF)
        ∧ ∀ a, (a < o ∨ o + w / 8 ≤ a) →
            Memory.read vrf a = Memory.read s.vrf a ∧ Memory.read marks a = Memory.read s.vrfWritten a

/-- The mask bit of an element is bit `ei & 7` of byte `ei >> 3` of the register, whatever SEW and LMUL are, and the mask operand
is that of `v0` (40_element_engine R403). The model's choice: a read inside the register file always gives the bit, and may set
`readUnwritten`, also for a bit never written, whose read 10_state R121 makes a model fault (log 2). -/
def Obligations.MaskLayout : Prop :=
  ∀ (s : State) (reg ei : Nat),
    s.maskAt reg ei = (Memory.read s.vrf (reg * s.cfg.vlenb + (ei >>> 3))).getLsbD (ei &&& 7)
      ∧ (ei / 8 < s.vrfSize → ∃ bad, maskbit ei s = .ok (s.maskAt 0 ei, { s with readUnwritten := bad }))

/-- A mask-destination write: the element's byte is first zeroed as the policy says, then the element's bit is set; every other
byte keeps its value, and the byte counts as touched. -/
def Obligations.MaskDestinationWrite : Prop :=
  ∀ (s : State) (vd ei : Nat) (b : Bool), Memory.wf s.vrf = true →
    let a := vd * s.cfg.vlenb + ei / 8
    a < s.vrfSize → ∃ t, mwrite vd ei b s = .ok t
      ∧ (∀ k < 8, (Memory.read t.vrf a).getLsbD k =
          if k = ei % 8 then b
          else if (s.cfg.maskDestPolicy = .byteStart ∧ ei % 8 = 0) ∨ (s.cfg.maskDestPolicy ≠ .byteStart ∧ ei / 8 ∉ s.touched)
            then false
            else (Memory.read s.vrf a).getLsbD k)
      ∧ (∀ a', a' ≠ a → Memory.read t.vrf a' = Memory.read s.vrf a')
      ∧ ∀ B, B ∈ t.touched ↔ B ∈ s.touched ∨ B = ei / 8

/-- The memory primitives are little-endian and wrap: on an Ok answer with quiet agents, byte `k` of the value is the byte at
`addr + k` modulo `2^XLEN`, a write changes no other byte, and the call is recorded. -/
def Obligations.MemoryPrimitives : Prop :=
  ∀ (s : State) (addr n v : Nat), Memory.wf s.mem = true → n ≤ 8 → s.nextAnswer.agents = [] → s.nextAnswer.fault = none →
    (∃ r, memRead addr n s = .ok (r, { s with
        answers := s.answers.tail, trace := s.trace ++ [⟨.read, addr, n, r, none⟩] })
      ∧ r < 256 ^ n ∧ ∀ k < n, r / 256 ^ k % 256 = (Memory.read s.mem ((addr + k) % s.xmod)).toNat)
    ∧ ∃ m, memWrite addr n v s = .ok { s with
        mem := m, answers := s.answers.tail, trace := s.trace ++ [⟨.write, addr, n, v, none⟩] }
      ∧ (∀ k < n, (Memory.read m ((addr + k) % s.xmod)).toNat = v / 256 ^ k % 256)
      ∧ ∀ a, (∀ k < n, a ≠ (addr + k) % s.xmod) → Memory.read m a = Memory.read s.mem a

/-- The rounding-right-shift function on exact integers. -/
def Obligations.Rounding : Prop :=
  ∀ (v : Int) (d : Nat) (rm : RoundMode),
    roundoff v d rm = if d = 0 then v else ⌊(v : ℚ) / 2 ^ d⌋ + increment v d rm

/-- Delivery of a trap and the return from it: the engine's state stays, the pc, code and value are recorded, and the return
takes the pc back to the instruction with the cursor where the trap left it. -/
def Obligations.TrapDelivery : Prop :=
  ∀ (s : State) (t : Trap),
    s.takeTrap t = { s with
        touched := [], maskBits := [], ffPending := none, result := some (.trap t), xepc := s.pc, xcause := t.cause
        xtval := s.trapValue t, pc := s.xtvec }
      ∧ (s.takeTrap t).trapReturn.pc = s.pc ∧ (s.takeTrap t).trapReturn.vstart = s.vstart
      ∧ (s.takeTrap t).trapReturn.vrf = s.vrf ∧ (s.takeTrap t).trapReturn.vl = s.vl

/-- The exception codes, and the recorded value of a memory fault: the address of the call that failed. -/
def Obligations.CauseCodes : Prop :=
  ∀ (s : State) (a : Nat),
    Trap.cause .illegalInstruction = 2 ∧ Trap.cause (.memFault false ⟨.misaligned, a⟩) = 4
      ∧ Trap.cause (.memFault false ⟨.access, a⟩) = 5 ∧ Trap.cause (.memFault true ⟨.misaligned, a⟩) = 6
      ∧ Trap.cause (.memFault true ⟨.access, a⟩) = 7 ∧ Trap.cause (.memFault false ⟨.page, a⟩) = 13
      ∧ Trap.cause (.memFault true ⟨.page, a⟩) = 15
      ∧ ∀ store kind, s.trapValue (.memFault store ⟨kind, a⟩) = a

/-! ### Results, class by class -/

/-- Add, subtract, reverse subtract, minimum, maximum, multiply. -/
def Obligations.AddResults : Prop := BinaryResults addRows

/-- Bitwise logic and shifts. -/
def Obligations.LogicResults : Prop := BinaryResults logicRows

/-- The multiply-add family. -/
def Obligations.MultiplyAddResults : Prop :=
  ∀ (s : State) (i : Instr) (r : Ternary), multiplyAddRows s i = some r → Ready s i →
    Done s (exec i s) (r.run s) (destination s r.wd r.vd) ∧ (r.run s).sat = s.vxsat

/-- Add and subtract with carry. -/
def Obligations.CarryResults : Prop :=
  ∀ (s : State) (i : Instr) (r : Carry), carryRows s i = some r → Ready s i →
    Done s (exec i s) (r.run s) (destination s r.w r.vd) ∧ (r.run s).sat = s.vxsat

/-- The widening adds, subtracts and multiplies. -/
def Obligations.WideningResults : Prop := BinaryResults wideningRows

/-- The widening multiply-add family. -/
def Obligations.WideningMultiplyAddResults : Prop :=
  ∀ (s : State) (i : Instr) (r : Ternary), wideningMultiplyAddRows s i = some r → Ready s i →
    Done s (exec i s) (r.run s) (destination s r.wd r.vd) ∧ (r.run s).sat = s.vxsat

/-- The narrowing shifts. -/
def Obligations.NarrowingResults : Prop := BinaryResults narrowingRows

/-- The extensions. -/
def Obligations.ExtensionResults : Prop :=
  ∀ (s : State) (i : Instr) (r : Unary), extensionRows s i = some r → Ready s i →
    Done s (exec i s) (r.run s) (destination s r.wd r.vd) ∧ (r.run s).sat = s.vxsat

/-- The saturating adds and subtracts; the fold sets `vxsat` for each active element that clamps. -/
def Obligations.SaturatingResults : Prop :=
  ∀ (s : State) (i : Instr) (r : Binary), saturatingRows s i = some r → Ready s i →
    Done s (exec i s) (r.run s) (destination s r.wd r.vd)

/-- The averaging adds and subtracts and the scaling shifts. -/
def Obligations.AveragingResults : Prop := BinaryResults averagingRows

/-- The fractional multiply and the narrowing clips. -/
def Obligations.FractionalResults : Prop :=
  ∀ (s : State) (i : Instr) (r : Binary), fractionalRows s i = some r → Ready s i →
    Done s (exec i s) (r.run s) (destination s r.wd r.vd)

/-- Multiply-high, divide and remainder. -/
def Obligations.MultiplyDivideResults : Prop := BinaryResults multiplyDivideRows

/-- Quotient and remainder, signed and unsigned, fit together for every divisor, zero and the overflow included. -/
def Obligations.DivisionIdentity : Prop :=
  ∀ (w : Nat) (b a : BitVec w), 0 < w →
    (a ≠ 0 → (divuElem w b a).toNat * a.toNat + (remuElem w b a).toNat = b.toNat ∧ (remuElem w b a).toNat < a.toNat)
      ∧ (a ≠ 0 → divElem w b a * a + remElem w b a = b ∧ (remElem w b a).toInt.natAbs < a.toInt.natAbs)
      ∧ (a ≠ 0 → ¬ (b = BitVec.intMin w ∧ a = BitVec.allOnes w) → (divElem w b a).toInt = b.toInt.tdiv a.toInt)
      ∧ divElem w (BitVec.intMin w) (BitVec.allOnes w) = BitVec.intMin w
      ∧ remElem w (BitVec.intMin w) (BitVec.allOnes w) = 0
      ∧ divuElem w b 0 = BitVec.allOnes w ∧ divElem w b 0 = BitVec.allOnes w ∧ remuElem w b 0 = b ∧ remElem w b 0 = b

/-- Every reduction folds the active elements into the seed `vs1[0]` in element order with its operator, writes element 0 of `vd` and
no other byte, and completes (47_reductions R950 to R971, 40_element_engine R408, 60_exceptions R1220). What it does to the model's
bit `readUnwritten` is left open (log 2). -/
def Obligations.ReductionResults : Prop :=
  ∀ (s : State) (i : Instr) (r : Reduction), reductionRows s i = some r → Ready s i →
    Done s (exec i s) (r.run s) (elemBytes s.cfg r.aw r.vd 0) ∧ (r.run s).sat = s.vxsat

/-- Gathers and slides. -/
def Obligations.PermutationResults : Prop :=
  ∀ (s : State) (i : Instr) (r : Permutation), permutationRows s i = some r → Ready s i →
    Done s (exec i s) (r.run s) (destination s s.sew r.vd) ∧ (r.run s).sat = s.vxsat

/-- The compares. -/
def Obligations.CompareResults : Prop := MaskResults compareRows

/-- The carry-outs and borrow-outs. -/
def Obligations.CarryOutResults : Prop := MaskResults carryOutRows

/-- The unit-stride loads, stores and fault-only-first loads, with every segment count. -/
def Obligations.UnitStrideResults : Prop := AccessResults unitRows

/-- The strided loads and stores. -/
def Obligations.StridedResults : Prop := AccessResults stridedRows

/-- The indexed loads and stores. -/
def Obligations.IndexedResults : Prop := AccessResults indexedRows

/-- The whole-register and mask loads and stores move one byte per call. -/
def Obligations.ByteResults : Prop :=
  ∀ (s : State) (i : Instr) (r : Access × Nat), byteRows s i = some r → Ready s i → quiet s →
    DoneAccess s (exec i s) r.1 ((byteIndices s r.2).map (fun j => (j, 0)))
      (runOver (fun _ _ => true) (transfer s r.1) (byteIndices s r.2) (view s))

/-! ### Faults and resumption -/

/-- The state at a memory fault of an ordinary load or store. The model's choice: that the trap is delivered in the same step (log
10), and a record of a kind and the call's address (log 5). The first call that faults is that for field `fi` of element `ei`;
the cursor is `ei`, `vl` is unchanged, every active element below `ei` and fields `0` to `fi - 1` of element `ei` are
transferred, and nothing else. -/
def Obligations.MemFaultState : Prop :=
  ∀ (s : State) (i : Instr) (a : Access) (ei fi : Nat) (kind : FaultKind),
    accessRows s i = some a → a.call ≠ .probe → Ready s i → ei ∈ elements s → fi ≤ a.nf →
    active s a.vm (upTo s a ei) ei = true → firstFault s (calls s (before s a ei fi)) kind →
      TrapsAccess s (exec i s) a ei fi kind (fieldsOf s a (fun e => e < ei) ++ (List.range fi).map (fun f => (ei, f)))

/-- The same for the byte-granular loads and stores: the cursor is the faulting byte. The model's choice: delivery in the same step
(log 10), and a record of a kind and the call's address (log 5). -/
def Obligations.ByteFaultState : Prop :=
  ∀ (s : State) (i : Instr) (r : Access × Nat) (j : Nat) (kind : FaultKind),
    byteRows s i = some r → Ready s i → j ∈ byteIndices s r.2 → firstFault s (calls s (before s r.1 j 0)) kind →
      TrapsAccess s (exec i s) r.1 j 0 kind ((List.range' s.vstart (j - s.vstart)).map (fun k => (k, 0)))

/-- The fault-only-first state machine: a fault of element 0 traps with nothing written; a fault of a later element cuts `vl` to
that element, with the elements below it loaded and nothing above it written, and the command is done; with no fault it is done
like an ordinary load. The model's choice: in the trap, delivery in the same step (log 10) and a record of a kind and the call's
address (log 5). -/
def Obligations.FirstFaultMachine : Prop :=
  ∀ (s : State) (i : Instr) (a : Access), unitRows s i = some a → a.call = .probe → Ready s i →
    (∀ fi kind, fi ≤ a.nf → 0 ∈ elements s → active s a.vm (view s) 0 = true →
      firstFault s (calls s (before s a 0 fi)) kind →
        Traps s (exec i s) 0 false ⟨kind, s.addr (a.addr s.vrf 0 fi)⟩
          { view s with trace := (faulted s a 0 fi kind).trace })
    ∧ (∀ ei fi kind, 0 < ei → ei ∈ elements s → fi ≤ a.nf → active s a.vm (upTo s a ei) ei = true →
      firstFault s (calls s (before s a ei fi)) kind →
        Truncates s (exec i s) ei { upTo s a ei with trace := (faulted s a ei fi kind).trace }
          ∧ Confined s (upTo s a ei) (loadedBytes s a (fieldsOf s a (fun e => e < ei))) [])
    ∧ (quiet s → Completes s (exec i s) (loop s (active s a.vm) (transfer s a)))

/-- Resumption is exact: after a memory fault of an ordinary load or store, returning to the instruction and running it again
with no further fault gives the register file, memory, `vl` and pc of the run that never faulted, provided the command's mask
and addresses do not depend on what it writes. The byte-granular forms are left to `ByteFaultState`. The model's choice: delivery and
return as single steps of the dispatcher (log 10). -/
def Obligations.ResumeIsExact : Prop :=
  ∀ (s t : State) (i : Instr) (a : Access) (ei fi : Nat) (kind : FaultKind),
    accessRows s i = some a → a.call ≠ .probe → Ready s i → ei ∈ elements s → fi ≤ a.nf →
    active s a.vm (upTo s a ei) ei = true → firstFault s (calls s (before s a ei fi)) kind → SourcesKept s a →
    exec i s = .next t → quiet t →
      let whole := loop s (active s a.vm) (transfer s a)
      ∃ u, exec i t.trapReturn = .next u ∧ u.vrf = whole.vrf ∧ u.vrfWritten = whole.marks ∧ u.mem = whole.mem
        ∧ u.vl = s.vl ∧ u.vstart = 0 ∧ u.pc = s.addr (s.pc + 4) ∧ u.result = some .done

/-- Where no element writes what a later element reads, a two-operand instruction gives every active element the function of the
operands as the command found them, leaves every inactive element alone, and sets `vxsat` exactly where one of them clamps. -/
def Obligations.ParallelResults : Prop :=
  ∀ (s : State) (i : Instr) (r : Binary), binaryRows s i = some r → Ready s i → Separate s r →
    ∃ t, exec i s = .next t ∧ t.result = some .done
      ∧ (∀ ei ∈ elements s, elem s.cfg t.vrf r.wd r.vd ei =
          if active s r.vm (view s) ei then (r.onOriginals s ei).1 else elem s.cfg s.vrf r.wd r.vd ei)
      ∧ t.vxsat = (s.vxsat || (elements s).any (fun ei => active s r.vm (view s) ei && (r.onOriginals s ei).2))

/-- A read of an element with a bit that no write has set since reset is noted, and no command forgets it (the model's own
bit; log 2). -/
def Obligations.UnwrittenReads : Prop :=
  (∀ (s : State) (w off : Nat), off + w / 8 ≤ s.vrfSize → (∃ k < w / 8, Memory.read s.vrfWritten (off + k) ≠ 0xFF) →
    ∃ v, vreadAt w off s = .ok (v, { s with readUnwritten := true }))
  ∧ ∀ (i : Instr) (s t : State), i.wf = true → s.inv = true → exec i s = .next t → s.readUnwritten = true →
      t.readUnwritten = true
end

