-- ==== Sys2Proof/Laws/State.lean ====
section
/-! SUPPORT. One lemma per field per named update of the state, true by `rfl`. -/

namespace Sys2Proof.Machine

/-! ### `State.pin` -/

@[simp] theorem State.pin_cfg (s : State) (k : Nat) : (s.pin k).cfg = s.cfg := rfl
@[simp] theorem State.pin_vrf (s : State) (k : Nat) : (s.pin k).vrf = s.vrf := rfl
@[simp] theorem State.pin_vrfWritten (s : State) (k : Nat) : (s.pin k).vrfWritten = s.vrfWritten := rfl
@[simp] theorem State.pin_readUnwritten (s : State) (k : Nat) : (s.pin k).readUnwritten = s.readUnwritten := rfl
@[simp] theorem State.pin_vsew (s : State) (k : Nat) : (s.pin k).vsew = s.vsew := rfl
@[simp] theorem State.pin_vlmul (s : State) (k : Nat) : (s.pin k).vlmul = s.vlmul := rfl
@[simp] theorem State.pin_vta (s : State) (k : Nat) : (s.pin k).vta = s.vta := rfl
@[simp] theorem State.pin_vma (s : State) (k : Nat) : (s.pin k).vma = s.vma := rfl
@[simp] theorem State.pin_vill (s : State) (k : Nat) : (s.pin k).vill = s.vill := rfl
@[simp] theorem State.pin_vl (s : State) (k : Nat) : (s.pin k).vl = s.vl := rfl
@[simp] theorem State.pin_vstart (s : State) (k : Nat) : (s.pin k).vstart = k := rfl
@[simp] theorem State.pin_vxrm (s : State) (k : Nat) : (s.pin k).vxrm = s.vxrm := rfl
@[simp] theorem State.pin_vxsat (s : State) (k : Nat) : (s.pin k).vxsat = s.vxsat := rfl
@[simp] theorem State.pin_touched (s : State) (k : Nat) : (s.pin k).touched = s.touched := rfl
@[simp] theorem State.pin_maskBits (s : State) (k : Nat) : (s.pin k).maskBits = s.maskBits := rfl
@[simp] theorem State.pin_ffPending (s : State) (k : Nat) : (s.pin k).ffPending = s.ffPending := rfl
@[simp] theorem State.pin_freeDraws (s : State) (k : Nat) : (s.pin k).freeDraws = s.freeDraws := rfl
@[simp] theorem State.pin_mem (s : State) (k : Nat) : (s.pin k).mem = s.mem := rfl
@[simp] theorem State.pin_answers (s : State) (k : Nat) : (s.pin k).answers = s.answers := rfl
@[simp] theorem State.pin_trace (s : State) (k : Nat) : (s.pin k).trace = s.trace := rfl
@[simp] theorem State.pin_x (s : State) (k : Nat) : (s.pin k).x = s.x := rfl
@[simp] theorem State.pin_pc (s : State) (k : Nat) : (s.pin k).pc = s.pc := rfl
@[simp] theorem State.pin_launch (s : State) (k : Nat) : (s.pin k).launch = s.launch := rfl
@[simp] theorem State.pin_program (s : State) (k : Nat) : (s.pin k).program = s.program := rfl
@[simp] theorem State.pin_vsOn (s : State) (k : Nat) : (s.pin k).vsOn = s.vsOn := rfl
@[simp] theorem State.pin_xepc (s : State) (k : Nat) : (s.pin k).xepc = s.xepc := rfl
@[simp] theorem State.pin_xcause (s : State) (k : Nat) : (s.pin k).xcause = s.xcause := rfl
@[simp] theorem State.pin_xtval (s : State) (k : Nat) : (s.pin k).xtval = s.xtval := rfl
@[simp] theorem State.pin_xtvec (s : State) (k : Nat) : (s.pin k).xtvec = s.xtvec := rfl
@[simp] theorem State.pin_result (s : State) (k : Nat) : (s.pin k).result = s.result := rfl
@[simp] theorem State.pin_inbox (s : State) (k : Nat) : (s.pin k).inbox = s.inbox := rfl

/-! ### `State.noteRead` -/

@[simp] theorem State.noteRead_cfg (s : State) (offs : List Nat) (bits : Byte) : (s.noteRead offs bits).cfg = s.cfg := rfl
@[simp] theorem State.noteRead_vrf (s : State) (offs : List Nat) (bits : Byte) : (s.noteRead offs bits).vrf = s.vrf := rfl
@[simp] theorem State.noteRead_vrfWritten (s : State) (offs : List Nat) (bits : Byte) :
    (s.noteRead offs bits).vrfWritten = s.vrfWritten := rfl
@[simp] theorem State.noteRead_readUnwritten (s : State) (offs : List Nat) (bits : Byte) :
    (s.noteRead offs bits).readUnwritten = (s.readUnwritten || offs.any (fun o => Memory.read s.vrfWritten o &&& bits != bits)) := rfl
@[simp] theorem State.noteRead_vsew (s : State) (offs : List Nat) (bits : Byte) : (s.noteRead offs bits).vsew = s.vsew := rfl
@[simp] theorem State.noteRead_vlmul (s : State) (offs : List Nat) (bits : Byte) :
    (s.noteRead offs bits).vlmul = s.vlmul := rfl
@[simp] theorem State.noteRead_vta (s : State) (offs : List Nat) (bits : Byte) : (s.noteRead offs bits).vta = s.vta := rfl
@[simp] theorem State.noteRead_vma (s : State) (offs : List Nat) (bits : Byte) : (s.noteRead offs bits).vma = s.vma := rfl
@[simp] theorem State.noteRead_vill (s : State) (offs : List Nat) (bits : Byte) : (s.noteRead offs bits).vill = s.vill := rfl
@[simp] theorem State.noteRead_vl (s : State) (offs : List Nat) (bits : Byte) : (s.noteRead offs bits).vl = s.vl := rfl
@[simp] theorem State.noteRead_vstart (s : State) (offs : List Nat) (bits : Byte) :
    (s.noteRead offs bits).vstart = s.vstart := rfl
@[simp] theorem State.noteRead_vxrm (s : State) (offs : List Nat) (bits : Byte) : (s.noteRead offs bits).vxrm = s.vxrm := rfl
@[simp] theorem State.noteRead_vxsat (s : State) (offs : List Nat) (bits : Byte) :
    (s.noteRead offs bits).vxsat = s.vxsat := rfl
@[simp] theorem State.noteRead_touched (s : State) (offs : List Nat) (bits : Byte) :
    (s.noteRead offs bits).touched = s.touched := rfl
@[simp] theorem State.noteRead_maskBits (s : State) (offs : List Nat) (bits : Byte) :
    (s.noteRead offs bits).maskBits = s.maskBits := rfl
@[simp] theorem State.noteRead_ffPending (s : State) (offs : List Nat) (bits : Byte) :
    (s.noteRead offs bits).ffPending = s.ffPending := rfl
@[simp] theorem State.noteRead_freeDraws (s : State) (offs : List Nat) (bits : Byte) :
    (s.noteRead offs bits).freeDraws = s.freeDraws := rfl
@[simp] theorem State.noteRead_mem (s : State) (offs : List Nat) (bits : Byte) : (s.noteRead offs bits).mem = s.mem := rfl
@[simp] theorem State.noteRead_answers (s : State) (offs : List Nat) (bits : Byte) :
    (s.noteRead offs bits).answers = s.answers := rfl
@[simp] theorem State.noteRead_trace (s : State) (offs : List Nat) (bits : Byte) :
    (s.noteRead offs bits).trace = s.trace := rfl
@[simp] theorem State.noteRead_x (s : State) (offs : List Nat) (bits : Byte) : (s.noteRead offs bits).x = s.x := rfl
@[simp] theorem State.noteRead_pc (s : State) (offs : List Nat) (bits : Byte) : (s.noteRead offs bits).pc = s.pc := rfl
@[simp] theorem State.noteRead_launch (s : State) (offs : List Nat) (bits : Byte) :
    (s.noteRead offs bits).launch = s.launch := rfl
@[simp] theorem State.noteRead_program (s : State) (offs : List Nat) (bits : Byte) :
    (s.noteRead offs bits).program = s.program := rfl
@[simp] theorem State.noteRead_vsOn (s : State) (offs : List Nat) (bits : Byte) : (s.noteRead offs bits).vsOn = s.vsOn := rfl
@[simp] theorem State.noteRead_xepc (s : State) (offs : List Nat) (bits : Byte) : (s.noteRead offs bits).xepc = s.xepc := rfl
@[simp] theorem State.noteRead_xcause (s : State) (offs : List Nat) (bits : Byte) :
    (s.noteRead offs bits).xcause = s.xcause := rfl
@[simp] theorem State.noteRead_xtval (s : State) (offs : List Nat) (bits : Byte) :
    (s.noteRead offs bits).xtval = s.xtval := rfl
@[simp] theorem State.noteRead_xtvec (s : State) (offs : List Nat) (bits : Byte) :
    (s.noteRead offs bits).xtvec = s.xtvec := rfl
@[simp] theorem State.noteRead_result (s : State) (offs : List Nat) (bits : Byte) :
    (s.noteRead offs bits).result = s.result := rfl
@[simp] theorem State.noteRead_inbox (s : State) (offs : List Nat) (bits : Byte) :
    (s.noteRead offs bits).inbox = s.inbox := rfl

/-! ### `State.putBytes` -/

@[simp] theorem State.putBytes_cfg (s : State) (offs : List Nat) (v : Nat) : (s.putBytes offs v).cfg = s.cfg := rfl
@[simp] theorem State.putBytes_vrf (s : State) (offs : List Nat) (v : Nat) :
    (s.putBytes offs v).vrf = Memory.writeList s.vrf offs v := rfl
@[simp] theorem State.putBytes_vrfWritten (s : State) (offs : List Nat) (v : Nat) :
    (s.putBytes offs v).vrfWritten = Memory.fill s.vrfWritten 0xFF offs := rfl
@[simp] theorem State.putBytes_readUnwritten (s : State) (offs : List Nat) (v : Nat) :
    (s.putBytes offs v).readUnwritten = s.readUnwritten := rfl
@[simp] theorem State.putBytes_vsew (s : State) (offs : List Nat) (v : Nat) : (s.putBytes offs v).vsew = s.vsew := rfl
@[simp] theorem State.putBytes_vlmul (s : State) (offs : List Nat) (v : Nat) : (s.putBytes offs v).vlmul = s.vlmul := rfl
@[simp] theorem State.putBytes_vta (s : State) (offs : List Nat) (v : Nat) : (s.putBytes offs v).vta = s.vta := rfl
@[simp] theorem State.putBytes_vma (s : State) (offs : List Nat) (v : Nat) : (s.putBytes offs v).vma = s.vma := rfl
@[simp] theorem State.putBytes_vill (s : State) (offs : List Nat) (v : Nat) : (s.putBytes offs v).vill = s.vill := rfl
@[simp] theorem State.putBytes_vl (s : State) (offs : List Nat) (v : Nat) : (s.putBytes offs v).vl = s.vl := rfl
@[simp] theorem State.putBytes_vstart (s : State) (offs : List Nat) (v : Nat) : (s.putBytes offs v).vstart = s.vstart := rfl
@[simp] theorem State.putBytes_vxrm (s : State) (offs : List Nat) (v : Nat) : (s.putBytes offs v).vxrm = s.vxrm := rfl
@[simp] theorem State.putBytes_vxsat (s : State) (offs : List Nat) (v : Nat) : (s.putBytes offs v).vxsat = s.vxsat := rfl
@[simp] theorem State.putBytes_touched (s : State) (offs : List Nat) (v : Nat) :
    (s.putBytes offs v).touched = s.touched := rfl
@[simp] theorem State.putBytes_maskBits (s : State) (offs : List Nat) (v : Nat) :
    (s.putBytes offs v).maskBits = s.maskBits := rfl
@[simp] theorem State.putBytes_ffPending (s : State) (offs : List Nat) (v : Nat) :
    (s.putBytes offs v).ffPending = s.ffPending := rfl
@[simp] theorem State.putBytes_freeDraws (s : State) (offs : List Nat) (v : Nat) :
    (s.putBytes offs v).freeDraws = s.freeDraws := rfl
@[simp] theorem State.putBytes_mem (s : State) (offs : List Nat) (v : Nat) : (s.putBytes offs v).mem = s.mem := rfl
@[simp] theorem State.putBytes_answers (s : State) (offs : List Nat) (v : Nat) :
    (s.putBytes offs v).answers = s.answers := rfl
@[simp] theorem State.putBytes_trace (s : State) (offs : List Nat) (v : Nat) : (s.putBytes offs v).trace = s.trace := rfl
@[simp] theorem State.putBytes_x (s : State) (offs : List Nat) (v : Nat) : (s.putBytes offs v).x = s.x := rfl
@[simp] theorem State.putBytes_pc (s : State) (offs : List Nat) (v : Nat) : (s.putBytes offs v).pc = s.pc := rfl
@[simp] theorem State.putBytes_launch (s : State) (offs : List Nat) (v : Nat) : (s.putBytes offs v).launch = s.launch := rfl
@[simp] theorem State.putBytes_program (s : State) (offs : List Nat) (v : Nat) :
    (s.putBytes offs v).program = s.program := rfl
@[simp] theorem State.putBytes_vsOn (s : State) (offs : List Nat) (v : Nat) : (s.putBytes offs v).vsOn = s.vsOn := rfl
@[simp] theorem State.putBytes_xepc (s : State) (offs : List Nat) (v : Nat) : (s.putBytes offs v).xepc = s.xepc := rfl
@[simp] theorem State.putBytes_xcause (s : State) (offs : List Nat) (v : Nat) : (s.putBytes offs v).xcause = s.xcause := rfl
@[simp] theorem State.putBytes_xtval (s : State) (offs : List Nat) (v : Nat) : (s.putBytes offs v).xtval = s.xtval := rfl
@[simp] theorem State.putBytes_xtvec (s : State) (offs : List Nat) (v : Nat) : (s.putBytes offs v).xtvec = s.xtvec := rfl
@[simp] theorem State.putBytes_result (s : State) (offs : List Nat) (v : Nat) : (s.putBytes offs v).result = s.result := rfl
@[simp] theorem State.putBytes_inbox (s : State) (offs : List Nat) (v : Nat) : (s.putBytes offs v).inbox = s.inbox := rfl

/-! ### `State.orSat` -/

@[simp] theorem State.orSat_cfg (s : State) (b : Bool) : (s.orSat b).cfg = s.cfg := rfl
@[simp] theorem State.orSat_vrf (s : State) (b : Bool) : (s.orSat b).vrf = s.vrf := rfl
@[simp] theorem State.orSat_vrfWritten (s : State) (b : Bool) : (s.orSat b).vrfWritten = s.vrfWritten := rfl
@[simp] theorem State.orSat_readUnwritten (s : State) (b : Bool) : (s.orSat b).readUnwritten = s.readUnwritten := rfl
@[simp] theorem State.orSat_vsew (s : State) (b : Bool) : (s.orSat b).vsew = s.vsew := rfl
@[simp] theorem State.orSat_vlmul (s : State) (b : Bool) : (s.orSat b).vlmul = s.vlmul := rfl
@[simp] theorem State.orSat_vta (s : State) (b : Bool) : (s.orSat b).vta = s.vta := rfl
@[simp] theorem State.orSat_vma (s : State) (b : Bool) : (s.orSat b).vma = s.vma := rfl
@[simp] theorem State.orSat_vill (s : State) (b : Bool) : (s.orSat b).vill = s.vill := rfl
@[simp] theorem State.orSat_vl (s : State) (b : Bool) : (s.orSat b).vl = s.vl := rfl
@[simp] theorem State.orSat_vstart (s : State) (b : Bool) : (s.orSat b).vstart = s.vstart := rfl
@[simp] theorem State.orSat_vxrm (s : State) (b : Bool) : (s.orSat b).vxrm = s.vxrm := rfl
@[simp] theorem State.orSat_vxsat (s : State) (b : Bool) : (s.orSat b).vxsat = (s.vxsat || b) := rfl
@[simp] theorem State.orSat_touched (s : State) (b : Bool) : (s.orSat b).touched = s.touched := rfl
@[simp] theorem State.orSat_maskBits (s : State) (b : Bool) : (s.orSat b).maskBits = s.maskBits := rfl
@[simp] theorem State.orSat_ffPending (s : State) (b : Bool) : (s.orSat b).ffPending = s.ffPending := rfl
@[simp] theorem State.orSat_freeDraws (s : State) (b : Bool) : (s.orSat b).freeDraws = s.freeDraws := rfl
@[simp] theorem State.orSat_mem (s : State) (b : Bool) : (s.orSat b).mem = s.mem := rfl
@[simp] theorem State.orSat_answers (s : State) (b : Bool) : (s.orSat b).answers = s.answers := rfl
@[simp] theorem State.orSat_trace (s : State) (b : Bool) : (s.orSat b).trace = s.trace := rfl
@[simp] theorem State.orSat_x (s : State) (b : Bool) : (s.orSat b).x = s.x := rfl
@[simp] theorem State.orSat_pc (s : State) (b : Bool) : (s.orSat b).pc = s.pc := rfl
@[simp] theorem State.orSat_launch (s : State) (b : Bool) : (s.orSat b).launch = s.launch := rfl
@[simp] theorem State.orSat_program (s : State) (b : Bool) : (s.orSat b).program = s.program := rfl
@[simp] theorem State.orSat_vsOn (s : State) (b : Bool) : (s.orSat b).vsOn = s.vsOn := rfl
@[simp] theorem State.orSat_xepc (s : State) (b : Bool) : (s.orSat b).xepc = s.xepc := rfl
@[simp] theorem State.orSat_xcause (s : State) (b : Bool) : (s.orSat b).xcause = s.xcause := rfl
@[simp] theorem State.orSat_xtval (s : State) (b : Bool) : (s.orSat b).xtval = s.xtval := rfl
@[simp] theorem State.orSat_xtvec (s : State) (b : Bool) : (s.orSat b).xtvec = s.xtvec := rfl
@[simp] theorem State.orSat_result (s : State) (b : Bool) : (s.orSat b).result = s.result := rfl
@[simp] theorem State.orSat_inbox (s : State) (b : Bool) : (s.orSat b).inbox = s.inbox := rfl

/-! ### `State.record` -/

@[simp] theorem State.record_cfg (s : State) (e : MemEvent) : (s.record e).cfg = s.cfg := rfl
@[simp] theorem State.record_vrf (s : State) (e : MemEvent) : (s.record e).vrf = s.vrf := rfl
@[simp] theorem State.record_vrfWritten (s : State) (e : MemEvent) : (s.record e).vrfWritten = s.vrfWritten := rfl
@[simp] theorem State.record_readUnwritten (s : State) (e : MemEvent) : (s.record e).readUnwritten = s.readUnwritten := rfl
@[simp] theorem State.record_vsew (s : State) (e : MemEvent) : (s.record e).vsew = s.vsew := rfl
@[simp] theorem State.record_vlmul (s : State) (e : MemEvent) : (s.record e).vlmul = s.vlmul := rfl
@[simp] theorem State.record_vta (s : State) (e : MemEvent) : (s.record e).vta = s.vta := rfl
@[simp] theorem State.record_vma (s : State) (e : MemEvent) : (s.record e).vma = s.vma := rfl
@[simp] theorem State.record_vill (s : State) (e : MemEvent) : (s.record e).vill = s.vill := rfl
@[simp] theorem State.record_vl (s : State) (e : MemEvent) : (s.record e).vl = s.vl := rfl
@[simp] theorem State.record_vstart (s : State) (e : MemEvent) : (s.record e).vstart = s.vstart := rfl
@[simp] theorem State.record_vxrm (s : State) (e : MemEvent) : (s.record e).vxrm = s.vxrm := rfl
@[simp] theorem State.record_vxsat (s : State) (e : MemEvent) : (s.record e).vxsat = s.vxsat := rfl
@[simp] theorem State.record_touched (s : State) (e : MemEvent) : (s.record e).touched = s.touched := rfl
@[simp] theorem State.record_maskBits (s : State) (e : MemEvent) : (s.record e).maskBits = s.maskBits := rfl
@[simp] theorem State.record_ffPending (s : State) (e : MemEvent) : (s.record e).ffPending = s.ffPending := rfl
@[simp] theorem State.record_freeDraws (s : State) (e : MemEvent) : (s.record e).freeDraws = s.freeDraws := rfl
@[simp] theorem State.record_mem (s : State) (e : MemEvent) : (s.record e).mem = s.mem := rfl
@[simp] theorem State.record_answers (s : State) (e : MemEvent) : (s.record e).answers = s.answers := rfl
@[simp] theorem State.record_trace (s : State) (e : MemEvent) : (s.record e).trace = s.trace ++ [e] := rfl
@[simp] theorem State.record_x (s : State) (e : MemEvent) : (s.record e).x = s.x := rfl
@[simp] theorem State.record_pc (s : State) (e : MemEvent) : (s.record e).pc = s.pc := rfl
@[simp] theorem State.record_launch (s : State) (e : MemEvent) : (s.record e).launch = s.launch := rfl
@[simp] theorem State.record_program (s : State) (e : MemEvent) : (s.record e).program = s.program := rfl
@[simp] theorem State.record_vsOn (s : State) (e : MemEvent) : (s.record e).vsOn = s.vsOn := rfl
@[simp] theorem State.record_xepc (s : State) (e : MemEvent) : (s.record e).xepc = s.xepc := rfl
@[simp] theorem State.record_xcause (s : State) (e : MemEvent) : (s.record e).xcause = s.xcause := rfl
@[simp] theorem State.record_xtval (s : State) (e : MemEvent) : (s.record e).xtval = s.xtval := rfl
@[simp] theorem State.record_xtvec (s : State) (e : MemEvent) : (s.record e).xtvec = s.xtvec := rfl
@[simp] theorem State.record_result (s : State) (e : MemEvent) : (s.record e).result = s.result := rfl
@[simp] theorem State.record_inbox (s : State) (e : MemEvent) : (s.record e).inbox = s.inbox := rfl

/-! ### `State.takeAnswer` -/

@[simp] theorem State.takeAnswer_cfg (s : State) : s.takeAnswer.cfg = s.cfg := rfl
@[simp] theorem State.takeAnswer_vrf (s : State) : s.takeAnswer.vrf = s.vrf := rfl
@[simp] theorem State.takeAnswer_vrfWritten (s : State) : s.takeAnswer.vrfWritten = s.vrfWritten := rfl
@[simp] theorem State.takeAnswer_readUnwritten (s : State) : s.takeAnswer.readUnwritten = s.readUnwritten := rfl
@[simp] theorem State.takeAnswer_vsew (s : State) : s.takeAnswer.vsew = s.vsew := rfl
@[simp] theorem State.takeAnswer_vlmul (s : State) : s.takeAnswer.vlmul = s.vlmul := rfl
@[simp] theorem State.takeAnswer_vta (s : State) : s.takeAnswer.vta = s.vta := rfl
@[simp] theorem State.takeAnswer_vma (s : State) : s.takeAnswer.vma = s.vma := rfl
@[simp] theorem State.takeAnswer_vill (s : State) : s.takeAnswer.vill = s.vill := rfl
@[simp] theorem State.takeAnswer_vl (s : State) : s.takeAnswer.vl = s.vl := rfl
@[simp] theorem State.takeAnswer_vstart (s : State) : s.takeAnswer.vstart = s.vstart := rfl
@[simp] theorem State.takeAnswer_vxrm (s : State) : s.takeAnswer.vxrm = s.vxrm := rfl
@[simp] theorem State.takeAnswer_vxsat (s : State) : s.takeAnswer.vxsat = s.vxsat := rfl
@[simp] theorem State.takeAnswer_touched (s : State) : s.takeAnswer.touched = s.touched := rfl
@[simp] theorem State.takeAnswer_maskBits (s : State) : s.takeAnswer.maskBits = s.maskBits := rfl
@[simp] theorem State.takeAnswer_ffPending (s : State) : s.takeAnswer.ffPending = s.ffPending := rfl
@[simp] theorem State.takeAnswer_freeDraws (s : State) : s.takeAnswer.freeDraws = s.freeDraws := rfl
@[simp] theorem State.takeAnswer_mem (s : State) :
    s.takeAnswer.mem = Memory.writeCells s.mem (s.nextAnswer.agents.map (fun c => (c.1 % s.xmod, c.2))) := rfl
@[simp] theorem State.takeAnswer_answers (s : State) : s.takeAnswer.answers = s.answers.tail := rfl
@[simp] theorem State.takeAnswer_trace (s : State) : s.takeAnswer.trace = s.trace := rfl
@[simp] theorem State.takeAnswer_x (s : State) : s.takeAnswer.x = s.x := rfl
@[simp] theorem State.takeAnswer_pc (s : State) : s.takeAnswer.pc = s.pc := rfl
@[simp] theorem State.takeAnswer_launch (s : State) : s.takeAnswer.launch = s.launch := rfl
@[simp] theorem State.takeAnswer_program (s : State) : s.takeAnswer.program = s.program := rfl
@[simp] theorem State.takeAnswer_vsOn (s : State) : s.takeAnswer.vsOn = s.vsOn := rfl
@[simp] theorem State.takeAnswer_xepc (s : State) : s.takeAnswer.xepc = s.xepc := rfl
@[simp] theorem State.takeAnswer_xcause (s : State) : s.takeAnswer.xcause = s.xcause := rfl
@[simp] theorem State.takeAnswer_xtval (s : State) : s.takeAnswer.xtval = s.xtval := rfl
@[simp] theorem State.takeAnswer_xtvec (s : State) : s.takeAnswer.xtvec = s.xtvec := rfl
@[simp] theorem State.takeAnswer_result (s : State) : s.takeAnswer.result = s.result := rfl
@[simp] theorem State.takeAnswer_inbox (s : State) : s.takeAnswer.inbox = s.inbox := rfl

/-! ### `State.clearHidden` -/

@[simp] theorem State.clearHidden_cfg (s : State) : s.clearHidden.cfg = s.cfg := rfl
@[simp] theorem State.clearHidden_vrf (s : State) : s.clearHidden.vrf = s.vrf := rfl
@[simp] theorem State.clearHidden_vrfWritten (s : State) : s.clearHidden.vrfWritten = s.vrfWritten := rfl
@[simp] theorem State.clearHidden_readUnwritten (s : State) : s.clearHidden.readUnwritten = s.readUnwritten := rfl
@[simp] theorem State.clearHidden_vsew (s : State) : s.clearHidden.vsew = s.vsew := rfl
@[simp] theorem State.clearHidden_vlmul (s : State) : s.clearHidden.vlmul = s.vlmul := rfl
@[simp] theorem State.clearHidden_vta (s : State) : s.clearHidden.vta = s.vta := rfl
@[simp] theorem State.clearHidden_vma (s : State) : s.clearHidden.vma = s.vma := rfl
@[simp] theorem State.clearHidden_vill (s : State) : s.clearHidden.vill = s.vill := rfl
@[simp] theorem State.clearHidden_vl (s : State) : s.clearHidden.vl = s.vl := rfl
@[simp] theorem State.clearHidden_vstart (s : State) : s.clearHidden.vstart = s.vstart := rfl
@[simp] theorem State.clearHidden_vxrm (s : State) : s.clearHidden.vxrm = s.vxrm := rfl
@[simp] theorem State.clearHidden_vxsat (s : State) : s.clearHidden.vxsat = s.vxsat := rfl
@[simp] theorem State.clearHidden_touched (s : State) : s.clearHidden.touched = [] := rfl
@[simp] theorem State.clearHidden_maskBits (s : State) : s.clearHidden.maskBits = [] := rfl
@[simp] theorem State.clearHidden_ffPending (s : State) : s.clearHidden.ffPending = none := rfl
@[simp] theorem State.clearHidden_freeDraws (s : State) : s.clearHidden.freeDraws = s.freeDraws := rfl
@[simp] theorem State.clearHidden_mem (s : State) : s.clearHidden.mem = s.mem := rfl
@[simp] theorem State.clearHidden_answers (s : State) : s.clearHidden.answers = s.answers := rfl
@[simp] theorem State.clearHidden_trace (s : State) : s.clearHidden.trace = s.trace := rfl
@[simp] theorem State.clearHidden_x (s : State) : s.clearHidden.x = s.x := rfl
@[simp] theorem State.clearHidden_pc (s : State) : s.clearHidden.pc = s.pc := rfl
@[simp] theorem State.clearHidden_launch (s : State) : s.clearHidden.launch = s.launch := rfl
@[simp] theorem State.clearHidden_program (s : State) : s.clearHidden.program = s.program := rfl
@[simp] theorem State.clearHidden_vsOn (s : State) : s.clearHidden.vsOn = s.vsOn := rfl
@[simp] theorem State.clearHidden_xepc (s : State) : s.clearHidden.xepc = s.xepc := rfl
@[simp] theorem State.clearHidden_xcause (s : State) : s.clearHidden.xcause = s.xcause := rfl
@[simp] theorem State.clearHidden_xtval (s : State) : s.clearHidden.xtval = s.xtval := rfl
@[simp] theorem State.clearHidden_xtvec (s : State) : s.clearHidden.xtvec = s.xtvec := rfl
@[simp] theorem State.clearHidden_result (s : State) : s.clearHidden.result = s.result := rfl
@[simp] theorem State.clearHidden_inbox (s : State) : s.clearHidden.inbox = s.inbox := rfl

/-! ### `State.takeTrap` -/

@[simp] theorem State.takeTrap_cfg (s : State) (t : Trap) : (s.takeTrap t).cfg = s.cfg := rfl
@[simp] theorem State.takeTrap_vrf (s : State) (t : Trap) : (s.takeTrap t).vrf = s.vrf := rfl
@[simp] theorem State.takeTrap_vrfWritten (s : State) (t : Trap) : (s.takeTrap t).vrfWritten = s.vrfWritten := rfl
@[simp] theorem State.takeTrap_readUnwritten (s : State) (t : Trap) : (s.takeTrap t).readUnwritten = s.readUnwritten := rfl
@[simp] theorem State.takeTrap_vsew (s : State) (t : Trap) : (s.takeTrap t).vsew = s.vsew := rfl
@[simp] theorem State.takeTrap_vlmul (s : State) (t : Trap) : (s.takeTrap t).vlmul = s.vlmul := rfl
@[simp] theorem State.takeTrap_vta (s : State) (t : Trap) : (s.takeTrap t).vta = s.vta := rfl
@[simp] theorem State.takeTrap_vma (s : State) (t : Trap) : (s.takeTrap t).vma = s.vma := rfl
@[simp] theorem State.takeTrap_vill (s : State) (t : Trap) : (s.takeTrap t).vill = s.vill := rfl
@[simp] theorem State.takeTrap_vl (s : State) (t : Trap) : (s.takeTrap t).vl = s.vl := rfl
@[simp] theorem State.takeTrap_vstart (s : State) (t : Trap) : (s.takeTrap t).vstart = s.vstart := rfl
@[simp] theorem State.takeTrap_vxrm (s : State) (t : Trap) : (s.takeTrap t).vxrm = s.vxrm := rfl
@[simp] theorem State.takeTrap_vxsat (s : State) (t : Trap) : (s.takeTrap t).vxsat = s.vxsat := rfl
@[simp] theorem State.takeTrap_touched (s : State) (t : Trap) : (s.takeTrap t).touched = [] := rfl
@[simp] theorem State.takeTrap_maskBits (s : State) (t : Trap) : (s.takeTrap t).maskBits = [] := rfl
@[simp] theorem State.takeTrap_ffPending (s : State) (t : Trap) : (s.takeTrap t).ffPending = none := rfl
@[simp] theorem State.takeTrap_freeDraws (s : State) (t : Trap) : (s.takeTrap t).freeDraws = s.freeDraws := rfl
@[simp] theorem State.takeTrap_mem (s : State) (t : Trap) : (s.takeTrap t).mem = s.mem := rfl
@[simp] theorem State.takeTrap_answers (s : State) (t : Trap) : (s.takeTrap t).answers = s.answers := rfl
@[simp] theorem State.takeTrap_trace (s : State) (t : Trap) : (s.takeTrap t).trace = s.trace := rfl
@[simp] theorem State.takeTrap_x (s : State) (t : Trap) : (s.takeTrap t).x = s.x := rfl
@[simp] theorem State.takeTrap_pc (s : State) (t : Trap) : (s.takeTrap t).pc = s.xtvec := rfl
@[simp] theorem State.takeTrap_launch (s : State) (t : Trap) : (s.takeTrap t).launch = s.launch := rfl
@[simp] theorem State.takeTrap_program (s : State) (t : Trap) : (s.takeTrap t).program = s.program := rfl
@[simp] theorem State.takeTrap_vsOn (s : State) (t : Trap) : (s.takeTrap t).vsOn = s.vsOn := rfl
@[simp] theorem State.takeTrap_xepc (s : State) (t : Trap) : (s.takeTrap t).xepc = s.pc := rfl
@[simp] theorem State.takeTrap_xcause (s : State) (t : Trap) : (s.takeTrap t).xcause = t.cause := rfl
@[simp] theorem State.takeTrap_xtval (s : State) (t : Trap) : (s.takeTrap t).xtval = s.trapValue t := rfl
@[simp] theorem State.takeTrap_xtvec (s : State) (t : Trap) : (s.takeTrap t).xtvec = s.xtvec := rfl
@[simp] theorem State.takeTrap_result (s : State) (t : Trap) : (s.takeTrap t).result = some (.trap t) := rfl
@[simp] theorem State.takeTrap_inbox (s : State) (t : Trap) : (s.takeTrap t).inbox = s.inbox := rfl

/-! ### `State.trapReturn` -/

@[simp] theorem State.trapReturn_cfg (s : State) : s.trapReturn.cfg = s.cfg := rfl
@[simp] theorem State.trapReturn_vrf (s : State) : s.trapReturn.vrf = s.vrf := rfl
@[simp] theorem State.trapReturn_vrfWritten (s : State) : s.trapReturn.vrfWritten = s.vrfWritten := rfl
@[simp] theorem State.trapReturn_readUnwritten (s : State) : s.trapReturn.readUnwritten = s.readUnwritten := rfl
@[simp] theorem State.trapReturn_vsew (s : State) : s.trapReturn.vsew = s.vsew := rfl
@[simp] theorem State.trapReturn_vlmul (s : State) : s.trapReturn.vlmul = s.vlmul := rfl
@[simp] theorem State.trapReturn_vta (s : State) : s.trapReturn.vta = s.vta := rfl
@[simp] theorem State.trapReturn_vma (s : State) : s.trapReturn.vma = s.vma := rfl
@[simp] theorem State.trapReturn_vill (s : State) : s.trapReturn.vill = s.vill := rfl
@[simp] theorem State.trapReturn_vl (s : State) : s.trapReturn.vl = s.vl := rfl
@[simp] theorem State.trapReturn_vstart (s : State) : s.trapReturn.vstart = s.vstart := rfl
@[simp] theorem State.trapReturn_vxrm (s : State) : s.trapReturn.vxrm = s.vxrm := rfl
@[simp] theorem State.trapReturn_vxsat (s : State) : s.trapReturn.vxsat = s.vxsat := rfl
@[simp] theorem State.trapReturn_touched (s : State) : s.trapReturn.touched = s.touched := rfl
@[simp] theorem State.trapReturn_maskBits (s : State) : s.trapReturn.maskBits = s.maskBits := rfl
@[simp] theorem State.trapReturn_ffPending (s : State) : s.trapReturn.ffPending = s.ffPending := rfl
@[simp] theorem State.trapReturn_freeDraws (s : State) : s.trapReturn.freeDraws = s.freeDraws := rfl
@[simp] theorem State.trapReturn_mem (s : State) : s.trapReturn.mem = s.mem := rfl
@[simp] theorem State.trapReturn_answers (s : State) : s.trapReturn.answers = s.answers := rfl
@[simp] theorem State.trapReturn_trace (s : State) : s.trapReturn.trace = s.trace := rfl
@[simp] theorem State.trapReturn_x (s : State) : s.trapReturn.x = s.x := rfl
@[simp] theorem State.trapReturn_pc (s : State) : s.trapReturn.pc = s.xepc := rfl
@[simp] theorem State.trapReturn_launch (s : State) : s.trapReturn.launch = s.launch := rfl
@[simp] theorem State.trapReturn_program (s : State) : s.trapReturn.program = s.program := rfl
@[simp] theorem State.trapReturn_vsOn (s : State) : s.trapReturn.vsOn = s.vsOn := rfl
@[simp] theorem State.trapReturn_xepc (s : State) : s.trapReturn.xepc = s.xepc := rfl
@[simp] theorem State.trapReturn_xcause (s : State) : s.trapReturn.xcause = s.xcause := rfl
@[simp] theorem State.trapReturn_xtval (s : State) : s.trapReturn.xtval = s.xtval := rfl
@[simp] theorem State.trapReturn_xtvec (s : State) : s.trapReturn.xtvec = s.xtvec := rfl
@[simp] theorem State.trapReturn_result (s : State) : s.trapReturn.result = s.result := rfl
@[simp] theorem State.trapReturn_inbox (s : State) : s.trapReturn.inbox = s.inbox := rfl

/-! ### `State.complete` -/

@[simp] theorem State.complete_cfg (s : State) : s.complete.cfg = s.cfg := rfl
@[simp] theorem State.complete_vrf (s : State) : s.complete.vrf = s.vrf := rfl
@[simp] theorem State.complete_vrfWritten (s : State) : s.complete.vrfWritten = s.vrfWritten := rfl
@[simp] theorem State.complete_readUnwritten (s : State) : s.complete.readUnwritten = s.readUnwritten := rfl
@[simp] theorem State.complete_vsew (s : State) : s.complete.vsew = s.vsew := rfl
@[simp] theorem State.complete_vlmul (s : State) : s.complete.vlmul = s.vlmul := rfl
@[simp] theorem State.complete_vta (s : State) : s.complete.vta = s.vta := rfl
@[simp] theorem State.complete_vma (s : State) : s.complete.vma = s.vma := rfl
@[simp] theorem State.complete_vill (s : State) : s.complete.vill = s.vill := rfl
@[simp] theorem State.complete_vl (s : State) : s.complete.vl = s.vl := rfl
@[simp] theorem State.complete_vstart (s : State) : s.complete.vstart = 0 := rfl
@[simp] theorem State.complete_vxrm (s : State) : s.complete.vxrm = s.vxrm := rfl
@[simp] theorem State.complete_vxsat (s : State) : s.complete.vxsat = s.vxsat := rfl
@[simp] theorem State.complete_touched (s : State) : s.complete.touched = [] := rfl
@[simp] theorem State.complete_maskBits (s : State) : s.complete.maskBits = [] := rfl
@[simp] theorem State.complete_ffPending (s : State) : s.complete.ffPending = none := rfl
@[simp] theorem State.complete_freeDraws (s : State) : s.complete.freeDraws = s.freeDraws := rfl
@[simp] theorem State.complete_mem (s : State) : s.complete.mem = s.mem := rfl
@[simp] theorem State.complete_answers (s : State) : s.complete.answers = s.answers := rfl
@[simp] theorem State.complete_trace (s : State) : s.complete.trace = s.trace := rfl
@[simp] theorem State.complete_x (s : State) : s.complete.x = s.x := rfl
@[simp] theorem State.complete_pc (s : State) : s.complete.pc = s.addr (s.pc + 4) := rfl
@[simp] theorem State.complete_launch (s : State) : s.complete.launch = s.launch := rfl
@[simp] theorem State.complete_program (s : State) : s.complete.program = s.program := rfl
@[simp] theorem State.complete_vsOn (s : State) : s.complete.vsOn = s.vsOn := rfl
@[simp] theorem State.complete_xepc (s : State) : s.complete.xepc = s.xepc := rfl
@[simp] theorem State.complete_xcause (s : State) : s.complete.xcause = s.xcause := rfl
@[simp] theorem State.complete_xtval (s : State) : s.complete.xtval = s.xtval := rfl
@[simp] theorem State.complete_xtvec (s : State) : s.complete.xtvec = s.xtvec := rfl
@[simp] theorem State.complete_result (s : State) : s.complete.result = some .done := rfl
@[simp] theorem State.complete_inbox (s : State) : s.complete.inbox = s.inbox := rfl

end Sys2Proof.Machine
end

