-- ==== Sys2Proof/Laws/Inside.lean ====
section
/-! SUPPORT. The accessors of the register file, the mask and the memory port on a state in the middle of a command
(`Reference.inside`): what each answers, and what it leaves of that state. -/

namespace Sys2Proof.Reference

open Sys2Proof.Machine

/-! ### What the middle of a command does not change -/

variable (s : State) (v : View) (k : Nat) (bad : Bool)

@[simp] theorem inside_vrf : (inside s v k bad).vrf = v.vrf := rfl
@[simp] theorem inside_vrfWritten : (inside s v k bad).vrfWritten = v.marks := rfl
@[simp] theorem inside_mem : (inside s v k bad).mem = v.mem := rfl
@[simp] theorem inside_trace : (inside s v k bad).trace = v.trace := rfl
@[simp] theorem inside_vxsat : (inside s v k bad).vxsat = v.sat := rfl
@[simp] theorem inside_vstart : (inside s v k bad).vstart = k := rfl
@[simp] theorem inside_readUnwritten : (inside s v k bad).readUnwritten = bad := rfl
@[simp] theorem inside_answers : (inside s v k bad).answers = s.answers.drop (calls s v) := rfl
@[simp] theorem inside_cfg : (inside s v k bad).cfg = s.cfg := rfl
@[simp] theorem inside_vl : (inside s v k bad).vl = s.vl := rfl
@[simp] theorem inside_vxrm : (inside s v k bad).vxrm = s.vxrm := rfl
@[simp] theorem inside_touched : (inside s v k bad).touched = [] := rfl
@[simp] theorem inside_maskBits : (inside s v k bad).maskBits = [] := rfl
@[simp] theorem inside_ffPending : (inside s v k bad).ffPending = none := rfl
@[simp] theorem inside_sew : (inside s v k bad).sew = s.sew := rfl
@[simp] theorem inside_sewLog : (inside s v k bad).sewLog = s.sewLog := rfl
@[simp] theorem inside_lmulLog : (inside s v k bad).lmulLog = s.lmulLog := rfl
@[simp] theorem inside_emulLog (e : Nat) : (inside s v k bad).emulLog e = s.emulLog e := rfl
@[simp] theorem inside_vlmax : (inside s v k bad).vlmax = s.vlmax := rfl
@[simp] theorem inside_vrfSize : (inside s v k bad).vrfSize = s.vrfSize := rfl
@[simp] theorem inside_xmod : (inside s v k bad).xmod = s.xmod := rfl
@[simp] theorem inside_addr (z : Int) : (inside s v k bad).addr z = s.addr z := rfl
@[simp] theorem inside_xval (r : Nat) : (inside s v k bad).xval r = s.xval r := rfl
@[simp] theorem inside_xsigned (r : Nat) : (inside s v k bad).xsigned r = s.xsigned r := rfl
@[simp] theorem inside_scalar (w r : Nat) : (inside s v k bad).scalar w r = s.scalar w r := rfl
@[simp] theorem inside_byteAddrs (a n : Nat) : (inside s v k bad).byteAddrs a n = s.byteAddrs a n := rfl
@[simp] theorem inside_elemOffset (reg fi ei eew : Nat) (emul : Int) :
    (inside s v k bad).elemOffset reg fi ei eew emul = s.elemOffset reg fi ei eew emul := rfl
@[simp] theorem inside_maskOffset (reg ei : Nat) : (inside s v k bad).maskOffset reg ei = s.maskOffset reg ei := rfl
@[simp] theorem inside_pin (j : Nat) : (inside s v k bad).pin j = inside s v j bad := rfl

theorem inside_noteRead (offs : List Nat) (bits : Byte) :
    ∃ bad', (inside s v k bad).noteRead offs bits = inside s v k bad' := ⟨_, rfl⟩

theorem inside_orSat (b : Bool) : (inside s v k bad).orSat b = inside s { v with sat := v.sat || b } k bad := rfl

theorem inside_putBytes (offs : List Nat) (n : Nat) :
    (inside s v k bad).putBytes offs n
      = inside s { v with vrf := Memory.writeList v.vrf offs n, marks := Memory.fill v.marks 0xFF offs } k bad := rfl

/-- A command starts from the middle of itself, with nothing done. -/
theorem clearHidden_eq_inside : s.clearHidden = inside s (view s) s.vstart s.readUnwritten := by
  simp [State.clearHidden, inside, view, calls]

/-! ### The register file -/

theorem vreadAt_inside (w off : Nat) (h : off + w / 8 ≤ s.vrfSize) :
    ∃ bad', vreadAt w off (inside s v k bad)
      = .ok (BitVec.ofNat w (Memory.readList v.vrf (List.range' off (w / 8))), inside s v k bad') := by
  rw [vreadAt, inside_vrfSize, if_pos h]
  exact ⟨_, rfl⟩

theorem vwriteAt_inside (w off : Nat) (r : BitVec w) (h : off + w / 8 ≤ s.vrfSize) :
    vwriteAt w off r (inside s v k bad)
      = .ok (inside s { v with
          vrf := Memory.writeList v.vrf (List.range' off (w / 8)) r.toNat
          marks := Memory.fill v.marks 0xFF (List.range' off (w / 8)) } k bad) := by
  rw [vwriteAt, inside_vrfSize, if_pos h]
  rfl

theorem vread_inside (w reg ei : Nat) (h : reg * s.cfg.vlenb + ei * (w / 8) + w / 8 ≤ s.vrfSize) :
    ∃ bad', vread w reg ei (inside s v k bad) = .ok (elem s.cfg v.vrf w reg ei, inside s v k bad') := by
  simp only [vread, vreadField, State.elemOffset, Nat.zero_mul, Nat.add_zero]
  exact vreadAt_inside s v k bad w _ h

theorem vwrite_inside (w reg ei : Nat) (r : BitVec w) (h : reg * s.cfg.vlenb + ei * (w / 8) + w / 8 ≤ s.vrfSize) :
    vwrite w reg ei r (inside s v k bad) = .ok (inside s (v.put s.cfg w reg ei r) k bad) := by
  simp only [vwrite, vwriteField, State.elemOffset, Nat.zero_mul, Nat.add_zero]
  exact vwriteAt_inside s v k bad w _ r h

/-! ### The mask -/

theorem maskbit_inside (ei : Nat) (h : ei / 8 < s.vrfSize) :
    ∃ bad', maskbit ei (inside s v k bad) = .ok (maskBit s.cfg v.vrf 0 ei, inside s v k bad') := by
  have h' : (inside s v k bad).maskOffset 0 ei < (inside s v k bad).vrfSize := by simpa [State.maskOffset] using h
  rw [maskbit, if_pos h']
  exact ⟨_, rfl⟩

theorem activeElement_inside (vm : Bool) (ei : Nat) (h : vm = true ∨ ei / 8 < s.vrfSize) :
    ∃ bad', activeElement vm ei (inside s v k bad) = .ok (active s vm v ei, inside s v k bad') := by
  cases vm with
  | true => exact ⟨bad, rfl⟩
  | false => exact maskbit_inside s v k bad ei (by simpa using h)

/-! ### Operands -/

/-- A vector `op1` lies inside the register file (41_shape R456). -/
def srcInside (s : State) (w ei : Nat) : Src → Prop
  | .vec r => r * s.cfg.vlenb + ei * (w / 8) + w / 8 ≤ s.vrfSize
  | _ => True

theorem operand1_inside (w : Nat) (src : Src) (ei : Nat) (h : srcInside s w ei src) :
    ∃ bad', operand1 w src ei (inside s v k bad) = .ok (op1 s w src v ei, inside s v k bad') := by
  cases src with
  | vec r => exact vread_inside s v k bad w r ei h
  | scalar r => exact ⟨bad, rfl⟩
  | simm i => exact ⟨bad, rfl⟩
  | uimm i => exact ⟨bad, rfl⟩

theorem indexOperand_inside (w : Nat) (src : Src) (ei : Nat) (h : srcInside s w ei src) :
    ∃ bad', indexOperand w src ei (inside s v k bad) = .ok (index s w src v ei, inside s v k bad') := by
  cases src with
  | vec r =>
    obtain ⟨bad', hb⟩ := vread_inside s v k bad w r ei h
    exact ⟨bad', by simp only [indexOperand, hb]; rfl⟩
  | scalar r => exact ⟨bad, rfl⟩
  | simm i => exact ⟨bad, rfl⟩
  | uimm i => exact ⟨bad, rfl⟩

end Sys2Proof.Reference
end

