-- ==== Sys2Proof/Laws/Shapes.lean ====
section
/-! SUPPORT. What the typing precondition and a passed shape check give: every element's bytes lie in the register file (40_element_engine
R412). -/

namespace Sys2Proof.Machine

theorem State.typingOk_vsew {s : State} (h : s.typingOk = true) : s.vsew.toNat < 4 := by
  simp only [State.typingOk, Bool.and_eq_true, decide_eq_true_eq] at h
  exact h.1.1.1.1.1

theorem State.typingOk_vl {s : State} (h : s.typingOk = true) : s.vl ≤ s.vlmax := by
  simp only [State.typingOk, Bool.and_eq_true, decide_eq_true_eq] at h
  exact h.2

theorem State.sewLog_bounds {s : State} (h : s.typingOk = true) : 3 ≤ s.sewLog ∧ s.sewLog ≤ 6 := by
  have := State.typingOk_vsew h
  simp only [State.sewLog]
  omega

theorem State.lmulLog_bounds {s : State} (h : s.typingOk = true) : -3 ≤ s.lmulLog ∧ s.lmulLog ≤ 3 := by
  have h4 : s.vlmul ≠ 4 := by
    simp only [State.typingOk, Bool.and_eq_true, bne_iff_ne] at h
    exact h.1.1.1.1.2
  have : ∀ x : BitVec 3, x ≠ 4 → -3 ≤ x.toInt ∧ x.toInt ≤ 3 := by decide
  exact this _ h4

/-- Every element below VLMAX fits its group, counted in bits (10_state R107). -/
theorem State.bits_of_lt_vlmax {s : State} {ei : Nat} (h : ei < s.vlmax) :
    (ei + 1) * 2 ^ s.sewLog ≤ 2 ^ (s.lmulLog + 3).toNat * s.cfg.vlenb := by
  have := Nat.div_mul_le_self s.groupBits s.sew
  exact Nat.le_trans (Nat.mul_le_mul_right _ h) this

/-- An element below VLMAX of an operand with EEW `2^e` and EMUL `(EEW / SEW) LMUL` fits the operand's group. -/
theorem State.element_fits {s : State} {ei e : Nat} (ht : s.typingOk = true) (hei : ei < s.vlmax) (he : 3 ≤ e)
    (hem : -3 ≤ s.emulLog e) : ei * (2 ^ e / 8) + 2 ^ e / 8 ≤ regsPerField (s.emulLog e) * s.cfg.vlenb := by
  have hb := State.bits_of_lt_vlmax hei
  obtain ⟨l1, l2⟩ := State.lmulLog_bounds ht
  obtain ⟨e', rfl⟩ : ∃ e', e = e' + 3 := ⟨e - 3, by omega⟩
  have hdiv : 2 ^ (e' + 3) / 8 = 2 ^ e' := by rw [Nat.pow_add]; simp
  rw [hdiv]
  have hbits : (ei + 1) * 2 ^ (e' + 3) ≤ 2 ^ (s.emulLog (e' + 3) + 3).toNat * s.cfg.vlenb := by
    by_cases hc : s.sewLog ≤ e' + 3
    · obtain ⟨d, hd⟩ : ∃ d, e' + 3 = s.sewLog + d := ⟨e' + 3 - s.sewLog, by omega⟩
      have hx : (s.emulLog (e' + 3) + 3).toNat = (s.lmulLog + 3).toNat + d := by
        simp only [State.emulLog] at hem ⊢; omega
      rw [hx, hd, Nat.pow_add, Nat.pow_add]
      calc (ei + 1) * (2 ^ s.sewLog * 2 ^ d) = (ei + 1) * 2 ^ s.sewLog * 2 ^ d := by ring
        _ ≤ 2 ^ (s.lmulLog + 3).toNat * s.cfg.vlenb * 2 ^ d := Nat.mul_le_mul_right _ hb
        _ = _ := by ring
    · obtain ⟨d, hd⟩ : ∃ d, s.sewLog = e' + 3 + d := ⟨s.sewLog - (e' + 3), by omega⟩
      have hx : (s.lmulLog + 3).toNat = (s.emulLog (e' + 3) + 3).toNat + d := by
        simp only [State.emulLog] at hem ⊢; omega
      rw [hx, hd, Nat.pow_add _ (e' + 3) d, Nat.pow_add _ _ d] at hb
      have : (ei + 1) * 2 ^ (e' + 3) * 2 ^ d ≤ 2 ^ (s.emulLog (e' + 3) + 3).toNat * s.cfg.vlenb * 2 ^ d := by
        calc _ = (ei + 1) * (2 ^ (e' + 3) * 2 ^ d) := by ring
          _ ≤ _ := hb
          _ = _ := by ring
      exact Nat.le_of_mul_le_mul_right this (by positivity)
  have h8 : (ei + 1) * 2 ^ e' * 8 ≤ 2 ^ (s.emulLog (e' + 3) + 3).toNat * s.cfg.vlenb := by
    calc _ = (ei + 1) * 2 ^ (e' + 3) := by rw [Nat.pow_add]; ring
      _ ≤ _ := hbits
  have hgoal : ei * 2 ^ e' + 2 ^ e' = (ei + 1) * 2 ^ e' := by ring
  rw [hgoal, regsPerField]
  by_cases hneg : 0 ≤ s.emulLog (e' + 3)
  · have hx : (s.emulLog (e' + 3) + 3).toNat = (s.emulLog (e' + 3)).toNat + 3 := by omega
    rw [hx, Nat.pow_add] at h8
    have : (ei + 1) * 2 ^ e' * 8 ≤ 2 ^ (s.emulLog (e' + 3)).toNat * s.cfg.vlenb * 8 := by
      calc _ ≤ _ := h8
        _ = _ := by ring
    omega
  · have hx : (s.emulLog (e' + 3)).toNat = 0 := by omega
    have hy : 2 ^ (s.emulLog (e' + 3) + 3).toNat ≤ 8 := by
      calc _ ≤ 2 ^ 3 := Nat.pow_le_pow_right (by omega) (by omega)
        _ = 8 := rfl
    have : (ei + 1) * 2 ^ e' * 8 ≤ 8 * s.cfg.vlenb := Nat.le_trans h8 (Nat.mul_le_mul_right _ hy)
    rw [hx]
    omega

theorem Shape.ok_iff {o : Shape} : o.ok = true ↔
    (o.eew = 8 ∨ o.eew = 16 ∨ o.eew = 32 ∨ o.eew = 64) ∧ -3 ≤ o.emul ∧ o.emul ≤ 3 ∧ o.reg % regsPerField o.emul = 0
      ∧ (o.nf + 1) * 2 ^ (o.emul + 3).toNat ≤ 64 ∧ o.reg + (o.nf + 1) * regsPerField o.emul ≤ 32 := by
  unfold Shape.ok elen numVregs
  simp only [Bool.and_eq_true, Bool.or_eq_true, beq_iff_eq, decide_eq_true_eq]
  constructor
  · rintro ⟨⟨⟨⟨⟨⟨h1, -⟩, h2⟩, h3⟩, h4⟩, h5⟩, h6⟩
    refine ⟨?_, h2, h3, h4, h5, h6⟩
    tauto
  · rintro ⟨h1, h2, h3, h4, h5, h6⟩
    refine ⟨⟨⟨⟨⟨⟨?_, ?_⟩, h2⟩, h3⟩, h4⟩, h5⟩, h6⟩
    · tauto
    · rcases h1 with h | h | h | h <;> omega

/-- A passed check puts every field of every element below VLMAX inside the register file (40_element_engine R412). -/
theorem State.operand_inside {s : State} {reg e nf fi ei : Nat} (ht : s.typingOk = true)
    (h : Shape.ok ⟨reg, 2 ^ e, s.emulLog e, nf⟩ = true) (hei : ei < s.vlmax) (hfi : fi ≤ nf) :
    s.elemOffset reg fi ei (2 ^ e) (s.emulLog e) + 2 ^ e / 8 ≤ s.vrfSize := by
  obtain ⟨h1, h2, h3, -, -, h6⟩ := Shape.ok_iff.mp h
  have he : 3 ≤ e := by
    by_contra hlt
    have : 2 ^ e ≤ 2 ^ 2 := Nat.pow_le_pow_right (by omega) (by omega)
    simp at h1
    omega
  have hf := State.element_fits ht hei he h2
  simp only [State.elemOffset, State.vrfSize, numVregs] at *
  have h7 : (reg + fi * regsPerField (s.emulLog e)) + regsPerField (s.emulLog e) ≤ 32 := by
    have : (fi + 1) * regsPerField (s.emulLog e) ≤ (nf + 1) * regsPerField (s.emulLog e) := Nat.mul_le_mul_right _ (by omega)
    have h8 : (fi + 1) * regsPerField (s.emulLog e) = fi * regsPerField (s.emulLog e) + regsPerField (s.emulLog e) := by ring
    omega
  have h9 := Nat.mul_le_mul_right s.cfg.vlenb h7
  rw [Nat.add_mul] at h9
  omega

theorem State.emulLog_sewLog (s : State) : s.emulLog s.sewLog = s.lmulLog := by simp [State.emulLog]

theorem State.two_mul_sew (s : State) : 2 * s.sew = 2 ^ (s.sewLog + 1) := by
  rw [State.sew, Nat.pow_succ, Nat.mul_comm]

theorem State.narrow_inside {s : State} {reg ei : Nat} (ht : s.typingOk = true) (h : s.narrowOk reg = true)
    (hei : ei < s.vlmax) : reg * s.cfg.vlenb + ei * (s.sew / 8) + s.sew / 8 ≤ s.vrfSize := by
  have := State.operand_inside (reg := reg) (e := s.sewLog) (nf := 0) (fi := 0) ht
    (by rw [State.emulLog_sewLog]; exact h) hei (Nat.le_refl _)
  simpa [State.elemOffset, State.sew] using this

theorem State.wide_inside {s : State} {reg ei : Nat} (ht : s.typingOk = true) (h : s.wideOk reg = true)
    (hei : ei < s.vlmax) : reg * s.cfg.vlenb + ei * (2 * s.sew / 8) + 2 * s.sew / 8 ≤ s.vrfSize := by
  have he : s.emulLog (s.sewLog + 1) = s.lmulLog + 1 := by simp [State.emulLog]; ring
  have := State.operand_inside (reg := reg) (e := s.sewLog + 1) (nf := 0) (fi := 0) ht
    (by rw [he, ← State.two_mul_sew]; exact h) hei (Nat.le_refl _)
  rw [State.two_mul_sew]
  simpa [State.elemOffset] using this

theorem State.fraction_inside {s : State} {fLog reg ei : Nat} (ht : s.typingOk = true) (hf : fLog ≤ 3)
    (h : s.fractionOk fLog reg = true) (hei : ei < s.vlmax) :
    reg * s.cfg.vlenb + ei * (s.sew / 2 ^ fLog / 8) + s.sew / 2 ^ fLog / 8 ≤ s.vrfSize := by
  obtain ⟨b1, b2⟩ := State.sewLog_bounds ht
  have he : s.emulLog (s.sewLog - fLog) = s.lmulLog - fLog := by
    simp only [State.emulLog]; omega
  have hw : s.sew / 2 ^ fLog = 2 ^ (s.sewLog - fLog) := by
    rw [State.sew, Nat.pow_div (by omega) (by omega)]
  rw [State.fractionOk, hw] at h
  rw [hw]
  have := State.operand_inside (reg := reg) (e := s.sewLog - fLog) (nf := 0) (fi := 0) ht
    (by rw [he]; exact h) hei (Nat.le_refl _)
  simpa [State.elemOffset] using this

/-- The byte of an element's mask bit lies in one register (10_state R107, 40_element_engine R403). -/
theorem State.mask_byte_lt {s : State} {ei : Nat} (ht : s.typingOk = true) (hei : ei < s.vlmax) : ei / 8 < s.cfg.vlenb := by
  have hb := State.bits_of_lt_vlmax hei
  obtain ⟨b1, -⟩ := State.sewLog_bounds ht
  obtain ⟨l1, l2⟩ := State.lmulLog_bounds ht
  have h1 : 2 ^ 3 ≤ 2 ^ s.sewLog := Nat.pow_le_pow_right (by omega) b1
  have h2 : 2 ^ (s.lmulLog + 3).toNat ≤ 2 ^ 6 := Nat.pow_le_pow_right (by omega) (by omega)
  have h3 : (ei + 1) * 2 ^ 3 ≤ 2 ^ 6 * s.cfg.vlenb :=
    Nat.le_trans (Nat.mul_le_mul_left _ h1) (Nat.le_trans hb (Nat.mul_le_mul_right _ h2))
  omega

theorem State.mask_inside {s : State} {reg ei : Nat} (ht : s.typingOk = true) (hreg : reg < 32) (hei : ei < s.vlmax) :
    s.maskOffset reg ei < s.vrfSize := by
  have := State.mask_byte_lt ht hei
  have h : (reg + 1) * s.cfg.vlenb ≤ 32 * s.cfg.vlenb := Nat.mul_le_mul_right _ hreg
  rw [Nat.add_mul] at h
  simp only [State.maskOffset, State.vrfSize, numVregs]
  omega

/-- A reduction's scalar operand (41_shape R457). -/
theorem element_inside {s : State} {w reg : Nat} (hc : s.cfg.wf = true) (h : elementOk w reg = true) :
    reg * s.cfg.vlenb + 0 * (w / 8) + w / 8 ≤ s.vrfSize := by
  obtain ⟨h1, -, -, -, -, h6⟩ := Shape.ok_iff.mp h
  simp only [regsPerField] at h6
  have hv : 8 ≤ s.cfg.vlenb := by
    simp only [Config.wf, Bool.and_eq_true, decide_eq_true_eq] at hc
    exact hc.1.1.1
  have h7 : (reg + 1) * s.cfg.vlenb ≤ 32 * s.cfg.vlenb := Nat.mul_le_mul_right _ (by simpa using h6)
  rw [Nat.add_mul] at h7
  simp only [State.vrfSize, numVregs]
  simp only at h1
  omega

end Sys2Proof.Machine
end

