-- ==== Sys2Proof/Laws/Loops.lean ====
section
/-! SUPPORT. The loops and the running of a command, said once: if every element's body does what a function of views says,
the command completes with the fold of that function. -/

namespace Sys2Proof.Reference

open Sys2Proof.Machine

/-- The fold of a loop over the `n` elements from `lo`. -/
abbrev foldFrom {α : Type} (act : α → Nat → Bool) (body : Nat → α → α) (lo n : Nat) (v : α) : α :=
  runOver act body (List.range' lo n) v

theorem foldFrom_succ {α : Type} (act : α → Nat → Bool) (body : Nat → α → α) (lo n : Nat) (v : α) :
    foldFrom act body lo (n + 1) v = foldFrom act body (lo + 1) n (if act v lo then body lo v else v) := rfl

theorem runOver_append {α : Type} (act : α → Nat → Bool) (body : Nat → α → α) (l l' : List Nat) (v : α) :
    runOver act body (l ++ l') v = runOver act body l' (runOver act body l v) := by
  simp [runOver, List.foldl_append]

/-- A property that every active element's body keeps holds of the fold. -/
theorem runOver_induction {α : Type} {P : α → Prop} {act : α → Nat → Bool} {body : Nat → α → α} {l : List Nat}
    (h : ∀ ei ∈ l, ∀ v, P v → act v ei = true → P (body ei v)) {v : α} (hv : P v) : P (runOver act body l v) := by
  induction l generalizing v with
  | nil => exact hv
  | cons ei l ih =>
    simp only [runOver, List.foldl_cons]
    apply ih (fun e he => h e (by simp [he]))
    split
    next ha => exact h ei (by simp) v hv ha
    next => exact hv

/-- Folds of bodies that agree are equal. -/
theorem runOver_congr {α : Type} {act act' : α → Nat → Bool} {body body' : Nat → α → α} {l : List Nat}
    (ha : ∀ ei ∈ l, ∀ v, act v ei = act' v ei) (h : ∀ ei ∈ l, ∀ v, act v ei = true → body ei v = body' ei v) (v : α) :
    runOver act body l v = runOver act' body' l v := by
  induction l generalizing v with
  | nil => rfl
  | cons ei l ih =>
    simp only [runOver, List.foldl_cons]
    have := ih (fun e he => ha e (by simp [he])) (fun e he => h e (by simp [he]))
    simp only [runOver] at this
    rw [this, ha ei (by simp)]
    by_cases hv : act' v ei = true
    · rw [if_pos hv, if_pos hv, h ei (by simp) v (by rw [ha ei (by simp)]; exact hv)]
    · rw [if_neg hv, if_neg hv]

/-- The element loop runs the fold (40_element_engine R406, R409), on any representation of the state that only the cursor's
pin moves. -/
theorem elementSteps_fold {α : Type} {rep : α → Nat → Bool → State} (hpin : ∀ v k bad j, (rep v k bad).pin j = rep v j bad)
    {act : Nat → State → Run (Bool × State)} {body : Nat → State → Run State}
    {actV : α → Nat → Bool} {bodyV : Nat → α → α} {P : α → Prop} {n lo : Nat}
    (hact : ∀ ei v bad, lo ≤ ei → ei < lo + n → ∃ bad', act ei (rep v ei bad) = .ok (actV v ei, rep v ei bad'))
    (hbody : ∀ ei v bad, lo ≤ ei → ei < lo + n → P v → actV v ei = true →
      P (bodyV ei v) ∧ ∃ bad', body ei (rep v ei bad) = .ok (rep (bodyV ei v) ei bad'))
    {v : α} (k : Nat) (bad : Bool) (hv : P v) :
    ∃ k' bad', elementSteps act body n lo (rep v k bad) = .ok (rep (foldFrom actV bodyV lo n v) k' bad') := by
  induction n generalizing lo v k bad with
  | zero => exact ⟨k, bad, rfl⟩
  | succ n ih =>
    obtain ⟨b1, h1⟩ := hact lo v bad (Nat.le_refl _) (by omega)
    have ih' := fun {v} => @ih (lo + 1) (fun ei v b h2 h3 => hact ei v b (by omega) (by omega))
      (fun ei v b h2 h3 => hbody ei v b (by omega) (by omega)) v
    rw [foldFrom_succ]
    by_cases ha : actV v lo = true
    · obtain ⟨hP, b2, h2⟩ := hbody lo v b1 (Nat.le_refl _) (by omega) hv ha
      obtain ⟨k', b3, h3⟩ := ih' lo b2 hP
      refine ⟨k', b3, ?_⟩
      rw [if_pos ha, ← h3]
      simp only [elementSteps, hpin, h1, ha, bind, Except.bind, if_true, h2]
    · obtain ⟨k', b3, h3⟩ := ih' lo b1 hv
      refine ⟨k', b3, ?_⟩
      rw [if_neg ha, ← h3]
      simp only [elementSteps, hpin, h1, ha, bind, Except.bind]
      rfl

/-- A command whose body runs to its end completes (40_element_engine R400, R408). -/
theorem runCommand_completes {s : State} {shapes : State → Bool} {body : State → Run State} {v : View}
    (ht : s.typingOk = true) (hs : shapes s = true)
    (hb : ∃ k bad, body (inside s (view s) s.vstart s.readUnwritten) = .ok (inside s v k bad)) :
    Completes s (runCommand shapes body s) v := by
  obtain ⟨k, bad, h⟩ := hb
  refine ⟨bad, ?_⟩
  rw [runCommand, if_pos ht, if_pos hs, clearHidden_eq_inside, h]
  rfl

/-- A command with a failed shape check traps before it writes anything (41_shape_validator R451). -/
theorem runCommand_illegal {s : State} {shapes : State → Bool} {body : State → Run State}
    (ht : s.typingOk = true) (hs : shapes s = false) :
    runCommand shapes body s = .next (s.takeTrap .illegalInstruction) := by
  rw [runCommand, if_pos ht, hs]; rfl

/-- A command in a typing state that breaks the precondition is refused (10_state R112). -/
theorem runCommand_refused {s : State} {shapes : State → Bool} {body : State → Run State} (ht : s.typingOk = false) :
    runCommand shapes body s = .refused .typingState := by
  rw [runCommand, ht]; rfl

theorem lt_vlmax_of_element {s : State} {ei : Nat} (ht : s.typingOk = true) (h1 : s.vstart ≤ ei)
    (h2 : ei < s.vstart + (s.vl - s.vstart)) : ei < s.vl ∧ ei < s.vlmax := by
  have := State.typingOk_vl ht
  omega

theorem active_inside {s : State} {ei : Nat} (ht : s.typingOk = true) (hei : ei < s.vlmax) (vm : Bool) (v : View)
    (k : Nat) (bad : Bool) :
    ∃ bad', activeElement vm ei (inside s v k bad) = .ok (active s vm v ei, inside s v k bad') := by
  apply activeElement_inside
  right
  have := State.mask_inside (reg := 0) ht (by omega) hei
  simpa [State.maskOffset] using this

/-- A masked element command that makes no memory call completes with the fold of its bodies. -/
theorem masked_completes {s : State} {vm : Bool} {shapes : State → Bool} {body : Nat → State → Run State}
    {bodyV : Nat → View → View} {P : View → Prop} (ht : s.typingOk = true) (hs : shapes s = true) (h0 : P (view s))
    (hbody : ∀ ei v k bad, ei < s.vl → ei < s.vlmax → P v → active s vm v ei = true →
      P (bodyV ei v) ∧ ∃ bad', body ei (inside s v k bad) = .ok (inside s (bodyV ei v) k bad')) :
    Completes s (runCommand shapes (elementLoop (activeElement vm) body) s) (loop s (active s vm) bodyV) := by
  apply runCommand_completes ht hs
  exact elementSteps_fold (rep := inside s) (inside_pin s) (P := P)
    (fun ei v bad h1 h2 => active_inside ht (lt_vlmax_of_element ht h1 h2).2 vm v ei bad)
    (fun ei v bad h1 h2 hP ha => hbody ei v ei bad (lt_vlmax_of_element ht h1 h2).1 (lt_vlmax_of_element ht h1 h2).2 hP ha)
    _ _ h0

/-- The same for a command all of whose elements are active. -/
theorem unmasked_completes {s : State} {shapes : State → Bool} {body : Nat → State → Run State}
    {bodyV : Nat → View → View} {P : View → Prop} (ht : s.typingOk = true) (hs : shapes s = true) (h0 : P (view s))
    (hbody : ∀ ei v k bad, ei < s.vl → ei < s.vlmax → P v →
      P (bodyV ei v) ∧ ∃ bad', body ei (inside s v k bad) = .ok (inside s (bodyV ei v) k bad')) :
    Completes s (runCommand shapes (elementLoop everyElement body) s) (loop s (fun _ _ => true) bodyV) := by
  apply runCommand_completes ht hs
  exact elementSteps_fold (rep := inside s) (inside_pin s) (P := P) (fun ei v bad _ _ => ⟨bad, rfl⟩)
    (fun ei v bad h1 h2 hP _ => hbody ei v ei bad (lt_vlmax_of_element ht h1 h2).1 (lt_vlmax_of_element ht h1 h2).2 hP)
    _ _ h0

/-! ### Classes of commands -/

theorem binaryBody_inside {s : State} {w2 w1 wd vd vs2 ei : Nat} {src : Src} {f : ElemFn w2 w1 wd} (v : View) (k : Nat)
    (bad : Bool) (h2 : vs2 * s.cfg.vlenb + ei * (w2 / 8) + w2 / 8 ≤ s.vrfSize)
    (h1 : srcInside s w1 ei src) (hd : vd * s.cfg.vlenb + ei * (wd / 8) + wd / 8 ≤ s.vrfSize) :
    ∃ bad', binaryBody w2 w1 wd vd vs2 src f ei (inside s v k bad)
      = .ok (inside s (binary s w2 w1 wd vd vs2 src f ei v) k bad') := by
  obtain ⟨b1, e1⟩ := vread_inside s v k bad w2 vs2 ei h2
  obtain ⟨b2, e2⟩ := operand1_inside s v k b1 w1 src ei h1
  refine ⟨b2, ?_⟩
  simp only [binaryBody, e1, e2, bind, Except.bind, inside_orSat]
  rw [vwrite_inside (h := hd)]
  rfl

theorem srcInside_of_ok {s : State} {src : Src} {ei : Nat} (ht : s.typingOk = true) (h : s.srcOk src = true)
    (hei : ei < s.vlmax) : srcInside s s.sew ei src := by
  cases src with
  | vec r => exact State.narrow_inside ht h hei
  | scalar r => trivial
  | simm i => trivial
  | uimm i => trivial

theorem sameWidth_completes {s : State} {vm : Bool} {vd vs2 : Nat} {src : Src} (f : (w : Nat) → ElemFn w w w)
    (ht : s.typingOk = true) (hs : sameWidthShapes vd vs2 src s = true) :
    Completes s (sameWidth vm vd vs2 src f s)
      (loop s (active s vm) (binary s s.sew s.sew s.sew vd vs2 src (f s.sew))) := by
  have hs' := hs
  simp only [sameWidthShapes, Bool.and_eq_true] at hs
  exact masked_completes (P := fun _ => True) ht hs' trivial (fun ei v k bad _ hm _ _ => ⟨trivial,
    binaryBody_inside v k bad (State.narrow_inside ht hs.1.2 hm) (srcInside_of_ok ht hs.2 hm)
      (State.narrow_inside ht hs.1.1 hm)⟩)

theorem widening_completes {s : State} {vm : Bool} {vd vs2 : Nat} {src : Src}
    (f : (w : Nat) → BitVec w → BitVec w → BitVec (2 * w)) (ht : s.typingOk = true)
    (hs : wideningShapes vd vs2 src s = true) :
    Completes s (widening vm vd vs2 src f s)
      (loop s (active s vm) (binary s s.sew s.sew (2 * s.sew) vd vs2 src (plain (f s.sew)))) := by
  have hs' := hs
  simp only [wideningShapes, Bool.and_eq_true] at hs
  exact masked_completes (P := fun _ => True) ht hs' trivial (fun ei v k bad _ hm _ _ => ⟨trivial,
    binaryBody_inside v k bad (State.narrow_inside ht hs.1.2 hm) (srcInside_of_ok ht hs.2 hm)
      (State.wide_inside ht hs.1.1 hm)⟩)

theorem wideningWide_completes {s : State} {vm : Bool} {vd vs2 : Nat} {src : Src}
    (f : (w : Nat) → BitVec (2 * w) → BitVec w → BitVec (2 * w)) (ht : s.typingOk = true)
    (hs : wideningWideShapes vd vs2 src s = true) :
    Completes s (wideningWide vm vd vs2 src f s)
      (loop s (active s vm) (binary s (2 * s.sew) s.sew (2 * s.sew) vd vs2 src (plain (f s.sew)))) := by
  have hs' := hs
  simp only [wideningWideShapes, Bool.and_eq_true] at hs
  exact masked_completes (P := fun _ => True) ht hs' trivial (fun ei v k bad _ hm _ _ => ⟨trivial,
    binaryBody_inside v k bad (State.wide_inside ht hs.1.2 hm) (srcInside_of_ok ht hs.2 hm)
      (State.wide_inside ht hs.1.1 hm)⟩)

theorem narrowing_completes {s : State} {vm : Bool} {vd vs2 : Nat} {src : Src} (f : (w : Nat) → ElemFn (2 * w) w w)
    (ht : s.typingOk = true) (hs : narrowingShapes vd vs2 src s = true) :
    Completes s (narrowing vm vd vs2 src f s)
      (loop s (active s vm) (binary s (2 * s.sew) s.sew s.sew vd vs2 src (f s.sew))) := by
  have hs' := hs
  simp only [narrowingShapes, Bool.and_eq_true] at hs
  exact masked_completes (P := fun _ => True) ht hs' trivial (fun ei v k bad _ hm _ _ => ⟨trivial,
    binaryBody_inside v k bad (State.wide_inside ht hs.1.2 hm) (srcInside_of_ok ht hs.2 hm)
      (State.narrow_inside ht hs.1.1 hm)⟩)

theorem extension_completes {s : State} {vm : Bool} {vd vs2 fLog : Nat} (f : (w2 w : Nat) → BitVec w2 → BitVec w)
    (hf : fLog ≤ 3) (ht : s.typingOk = true) (hs : extensionShapes fLog vd vs2 s = true) :
    Completes s (extension vm vd vs2 fLog f s)
      (loop s (active s vm) (unary s (s.sew / 2 ^ fLog) s.sew vd vs2 (f (s.sew / 2 ^ fLog) s.sew))) := by
  have hs' := hs
  simp only [extensionShapes, Bool.and_eq_true] at hs
  refine masked_completes (P := fun _ => True) ht hs' trivial (fun ei v k bad _ hm _ _ => ⟨trivial, ?_⟩)
  obtain ⟨b1, e1⟩ := vread_inside s v k bad _ vs2 ei (State.fraction_inside ht hf hs.2 hm)
  refine ⟨b1, ?_⟩
  simp only [unaryBody, e1, bind, Except.bind]
  rw [vwrite_inside (h := State.narrow_inside ht hs.1 hm)]
  rfl

theorem ternaryBody_inside {s : State} {w1 wd vd vs2 ei : Nat} {src : Src}
    {f : BitVec w1 → BitVec w1 → BitVec wd → BitVec wd} (v : View) (k : Nat)
    (bad : Bool) (h2 : vs2 * s.cfg.vlenb + ei * (w1 / 8) + w1 / 8 ≤ s.vrfSize)
    (h1 : srcInside s w1 ei src) (hd : vd * s.cfg.vlenb + ei * (wd / 8) + wd / 8 ≤ s.vrfSize) :
    ∃ bad', ternaryBody w1 wd vd vs2 src f ei (inside s v k bad)
      = .ok (inside s (ternary s w1 wd vd vs2 src f ei v) k bad') := by
  obtain ⟨b1, e1⟩ := operand1_inside s v k bad w1 src ei h1
  obtain ⟨b2, e2⟩ := vread_inside s v k b1 w1 vs2 ei h2
  obtain ⟨b3, e3⟩ := vread_inside s v k b2 wd vd ei hd
  refine ⟨b3, ?_⟩
  simp only [ternaryBody, e1, e2, e3, bind, Except.bind]
  rw [vwrite_inside (h := hd)]
  rfl

theorem multiplyAdd_completes {s : State} {vm : Bool} {vd vs2 : Nat} {src : Src}
    (f : (w : Nat) → BitVec w → BitVec w → BitVec w → BitVec w)
    (ht : s.typingOk = true) (hs : sameWidthShapes vd vs2 src s = true) :
    Completes s (multiplyAdd vm vd vs2 src f s) (loop s (active s vm) (ternary s s.sew s.sew vd vs2 src (f s.sew))) := by
  have hs' := hs
  simp only [sameWidthShapes, Bool.and_eq_true] at hs
  exact masked_completes (P := fun _ => True) ht hs' trivial (fun ei v k bad _ hm _ _ => ⟨trivial,
    ternaryBody_inside v k bad (State.narrow_inside ht hs.1.2 hm) (srcInside_of_ok ht hs.2 hm)
      (State.narrow_inside ht hs.1.1 hm)⟩)

theorem wideningMultiplyAdd_completes {s : State} {vm : Bool} {vd vs2 : Nat} {src : Src}
    (f : (w : Nat) → BitVec w → BitVec w → BitVec (2 * w) → BitVec (2 * w))
    (ht : s.typingOk = true) (hs : wideningShapes vd vs2 src s = true) :
    Completes s (wideningMultiplyAdd vm vd vs2 src f s)
      (loop s (active s vm) (ternary s s.sew (2 * s.sew) vd vs2 src (f s.sew))) := by
  have hs' := hs
  simp only [wideningShapes, Bool.and_eq_true] at hs
  exact masked_completes (P := fun _ => True) ht hs' trivial (fun ei v k bad _ hm _ _ => ⟨trivial,
    ternaryBody_inside v k bad (State.narrow_inside ht hs.1.2 hm) (srcInside_of_ok ht hs.2 hm)
      (State.wide_inside ht hs.1.1 hm)⟩)

theorem withCarry_completes {s : State} {vd vs2 : Nat} {src : Src}
    (f : (w : Nat) → BitVec w → BitVec w → Bool → BitVec w)
    (ht : s.typingOk = true) (hs : sameWidthShapes vd vs2 src s = true) :
    Completes s (withCarry vd vs2 src f s) (loop s (fun _ _ => true) (carried s s.sew vd vs2 src (f s.sew))) := by
  have hs' := hs
  simp only [sameWidthShapes, Bool.and_eq_true] at hs
  refine unmasked_completes (P := fun _ => True) ht hs' trivial (fun ei v k bad _ hm _ => ⟨trivial, ?_⟩)
  obtain ⟨b1, e1⟩ := vread_inside s v k bad _ vs2 ei (State.narrow_inside ht hs.1.2 hm)
  obtain ⟨b2, e2⟩ := operand1_inside s v k b1 _ src ei (srcInside_of_ok ht hs.2 hm)
  obtain ⟨b3, e3⟩ := maskbit_inside s v k b2 ei (by
    simpa [State.maskOffset] using State.mask_inside (reg := 0) ht (by omega) hm)
  refine ⟨b3, ?_⟩
  simp only [carryBody, e1, e2, e3, bind, Except.bind]
  rw [vwrite_inside (h := State.narrow_inside ht hs.1.1 hm)]
  rfl

end Sys2Proof.Reference
end

