-- ==== Sys2Proof/Laws/Accesses.lean ====
section
/-! SUPPORT. The memory port in the middle of a command, and the memory commands as folds when no call faults. -/

namespace Sys2Proof.Reference

open Sys2Proof.Machine

/-- The answer the collaborator has for the `k`-th call of the command. -/
def answerAt (s : State) (k : Nat) : Answer := (s.answers.drop k).headD ⟨[], none⟩

/-- The `k`-th call is answered Ok, and no agent has acted before it. -/
def okAt (s : State) (k : Nat) : Prop := (answerAt s k).agents = [] ∧ (answerAt s k).fault = none

theorem answerAt_mem (s : State) (k : Nat) : answerAt s k = ⟨[], none⟩ ∨ answerAt s k ∈ s.answers := by
  unfold answerAt
  cases h : s.answers.drop k with
  | nil => exact .inl rfl
  | cons a l => exact .inr (List.mem_of_mem_drop (i := k) (by rw [h]; simp))

theorem okAt_of_quiet {s : State} (h : quiet s) (k : Nat) : okAt s k := by
  rcases answerAt_mem s k with e | e
  · unfold okAt; rw [e]; exact ⟨rfl, rfl⟩
  · exact h _ e

theorem State.addr_addr_add (s : State) (z : Int) (k : Nat) : s.addr ((s.addr z : Nat) + k) = s.addr (z + k) := by
  have hm : (0 : Int) < (s.xmod : Int) := by
    have : 0 < s.xmod := by unfold State.xmod; positivity
    exact_mod_cast this
  unfold State.addr
  rw [Int.toNat_of_nonneg (Int.emod_nonneg _ (by omega)), Int.emod_add_emod]

theorem byteAddrs_eq (s : State) (z : Int) (n : Nat) : s.byteAddrs (s.addr z) n = memBytes s z n := by
  unfold State.byteAddrs memBytes
  apply List.map_congr_left
  intro k _
  exact State.addr_addr_add s z k

theorem calls_snoc {s : State} {v v' : View} {e : MemEvent} (h : s.trace.length ≤ v.trace.length)
    (ht : v'.trace = v.trace ++ [e]) : calls s v' = calls s v + 1 ∧ s.trace.length ≤ v'.trace.length := by
  unfold calls
  rw [ht, List.length_append, List.length_singleton]
  omega

theorem inside_nextAnswer (s : State) (v : View) (k : Nat) (bad : Bool) :
    (inside s v k bad).nextAnswer = answerAt s (calls s v) := rfl

/-- A quiet answer is used up. -/
theorem inside_takeAnswer {s : State} {v : View} (k : Nat) (bad : Bool) (ha : (answerAt s (calls s v)).agents = []) :
    (inside s v k bad).takeAnswer = { inside s v k bad with answers := s.answers.drop (calls s v + 1) } := by
  unfold State.takeAnswer
  rw [inside_nextAnswer, ha]
  simp only [List.map_nil, Memory.writeCells, inside_answers, List.tail_drop, inside_mem]

/-- A call answered Ok: the value, and the call recorded (20_memory R203, R209). -/
theorem memGet_inside {s : State} {v : View} (call : CallKind) (z : Int) (n k : Nat) (bad : Bool)
    (hl : s.trace.length ≤ v.trace.length) (hok : okAt s (calls s v)) :
    memGet call (s.addr z) n (inside s v k bad)
      = (.ok (Memory.readList v.mem (memBytes s z n)),
         inside s { v with trace := v.trace ++ [⟨call, s.addr z, n, Memory.readList v.mem (memBytes s z n), none⟩] } k bad) := by
  unfold memGet
  rw [inside_takeAnswer _ _ hok.1, inside_nextAnswer, hok.2, ← byteAddrs_eq]
  have := (calls_snoc (v' := { v with trace := v.trace ++ [⟨call, s.addr z, n,
    Memory.readList v.mem (s.byteAddrs (s.addr z) n), none⟩] }) hl rfl).1
  simp only [inside, this]
  rfl

/-- A call answered with a fault: the record, and the call recorded (20_memory R209). -/
theorem memGet_inside_fault {s : State} {v : View} (call : CallKind) (z : Int) (n k : Nat) (bad : Bool)
    (hl : s.trace.length ≤ v.trace.length) {kind : FaultKind} (ha : (answerAt s (calls s v)).agents = [])
    (hf : (answerAt s (calls s v)).fault = some kind) :
    memGet call (s.addr z) n (inside s v k bad)
      = (.error ⟨kind, s.addr z⟩,
         inside s { v with trace := v.trace ++ [⟨call, s.addr z, n, 0, some ⟨kind, s.addr z⟩⟩] } k bad) := by
  unfold memGet
  rw [inside_takeAnswer _ _ ha, inside_nextAnswer, hf]
  have := (calls_snoc (v' := { v with trace := v.trace ++ [⟨call, s.addr z, n, 0, some ⟨kind, s.addr z⟩⟩] }) hl rfl).1
  simp only [inside, this]
  rfl

/-- A write answered Ok (20_memory R203, R209). -/
theorem memWrite_inside {s : State} {v : View} (z : Int) (n x k : Nat) (bad : Bool)
    (hl : s.trace.length ≤ v.trace.length) (hok : okAt s (calls s v)) :
    memWrite (s.addr z) n x (inside s v k bad)
      = .ok (inside s { v with
          mem := Memory.writeList v.mem (memBytes s z n) x
          trace := v.trace ++ [⟨.write, s.addr z, n, x, none⟩] } k bad) := by
  unfold memWrite
  rw [inside_takeAnswer _ _ hok.1, inside_nextAnswer, hok.2, ← byteAddrs_eq]
  have := (calls_snoc (v' := { v with
    mem := Memory.writeList v.mem (s.byteAddrs (s.addr z) n) x
    trace := v.trace ++ [⟨.write, s.addr z, n, x, none⟩] }) hl rfl).1
  simp only [inside, this]
  rfl

/-- A faulting write performs no access (20_memory R209). -/
theorem memWrite_inside_fault {s : State} {v : View} (z : Int) (n x k : Nat) (bad : Bool)
    (hl : s.trace.length ≤ v.trace.length) {kind : FaultKind} (ha : (answerAt s (calls s v)).agents = [])
    (hf : (answerAt s (calls s v)).fault = some kind) :
    memWrite (s.addr z) n x (inside s v k bad)
      = .error (.trap (.memFault true ⟨kind, s.addr z⟩)
          (inside s { v with trace := v.trace ++ [⟨.write, s.addr z, n, x, some ⟨kind, s.addr z⟩⟩] } k bad)) := by
  unfold memWrite
  rw [inside_takeAnswer _ _ ha, inside_nextAnswer, hf]
  have := (calls_snoc (v' := { v with trace := v.trace ++ [⟨.write, s.addr z, n, x, some ⟨kind, s.addr z⟩⟩] }) hl rfl).1
  simp only [inside, this]
  rfl

/-! ### Fields -/

/-- Fields `fi` to `fi + n - 1` of an element, at addresses already computed. -/
def fieldsFrom (s : State) (a : Access) (z : Nat → Int) (ei fi n : Nat) (v : View) : View :=
  (List.range' fi n).foldl (fun w f => field s a (z f) ei f w) v

theorem fieldsFrom_succ (s : State) (a : Access) (z : Nat → Int) (ei fi n : Nat) (v : View) :
    fieldsFrom s a z ei fi (n + 1) v = fieldsFrom s a z ei (fi + 1) n (field s a (z fi) ei fi v) := rfl

theorem fields_eq (s : State) (a : Access) (n ei : Nat) (v : View) :
    fields s a n ei v = fieldsFrom s a (a.addr v.vrf ei) ei 0 n v := by
  simp [fields, fieldsFrom, List.range_eq_range']

theorem field_trace (s : State) (a : Access) (z : Int) (ei fi : Nat) (v : View) :
    ∃ e, (field s a z ei fi v).trace = v.trace ++ [e] := by
  unfold field
  split <;> exact ⟨_, rfl⟩

theorem field_calls {s : State} {a : Access} {z : Int} {ei fi : Nat} {v : View} (hl : s.trace.length ≤ v.trace.length) :
    calls s (field s a z ei fi v) = calls s v + 1 ∧ s.trace.length ≤ (field s a z ei fi v).trace.length := by
  obtain ⟨e, he⟩ := field_trace s a z ei fi v
  exact calls_snoc hl he

theorem fieldsFrom_calls {s : State} {a : Access} {z : Nat → Int} {ei fi n : Nat} {v : View}
    (hl : s.trace.length ≤ v.trace.length) :
    calls s (fieldsFrom s a z ei fi n v) = calls s v + n ∧ s.trace.length ≤ (fieldsFrom s a z ei fi n v).trace.length := by
  induction n generalizing fi v with
  | zero => exact ⟨rfl, hl⟩
  | succ n ih =>
    obtain ⟨h1, h2⟩ := field_calls (a := a) (z := z fi) (ei := ei) (fi := fi) hl
    obtain ⟨h3, h4⟩ := ih (fi := fi + 1) h2
    rw [fieldsFrom_succ, h3, h1]
    exact ⟨by omega, h4⟩

/-- Every field of element `ei` lies in the register file. -/
def fieldsInside (s : State) (a : Access) (ei : Nat) : Prop :=
  ∀ fi ≤ a.nf, a.fieldReg fi * s.cfg.vlenb + ei * (a.w / 8) + a.w / 8 ≤ s.vrfSize

theorem loadFields_inside {s : State} {a : Access} {z : Nat → Int} {ei fi n : Nat} {v : View} (k : Nat) (bad : Bool)
    (hc : a.call = .read) (hl : s.trace.length ≤ v.trace.length) (hin : fieldsInside s a ei) (hn : fi + n ≤ a.nf + 1)
    (hok : ∀ j, calls s v ≤ j → j < calls s v + n → okAt s j) :
    loadFields a.w a.reg ei a.emul z n fi (inside s v k bad) = .ok (inside s (fieldsFrom s a z ei fi n v) k bad) := by
  induction n generalizing fi v with
  | zero => rfl
  | succ n ih =>
    have h1 := memGet_inside .read (z fi) (a.w / 8) k bad hl (hok _ (Nat.le_refl _) (by omega))
    have hfield : field s a (z fi) ei fi v = { v.put s.cfg a.w (a.fieldReg fi) ei
        (BitVec.ofNat a.w (Memory.readList v.mem (memBytes s (z fi) (a.w / 8)))) with
        trace := v.trace ++ [⟨.read, s.addr (z fi), a.w / 8, Memory.readList v.mem (memBytes s (z fi) (a.w / 8)), none⟩] } := by
      unfold field; rw [if_neg (by rw [hc]; decide), hc]
    obtain ⟨h3, h4⟩ := field_calls (a := a) (z := z fi) (ei := ei) (fi := fi) hl
    have ih' := ih (fi := fi + 1) (v := field s a (z fi) ei fi v) h4 (by omega) (fun j h5 h6 => hok j (by omega) (by omega))
    rw [fieldsFrom_succ, ← ih']
    simp only [loadFields, memRead, inside_addr, h1, bind, Except.bind]
    have hw := vwriteAt_inside s { v with trace := v.trace ++
        [⟨.read, s.addr (z fi), a.w / 8, Memory.readList v.mem (memBytes s (z fi) (a.w / 8)), none⟩] } k bad a.w
      (a.fieldReg fi * s.cfg.vlenb + ei * (a.w / 8)) (BitVec.ofNat a.w (Memory.readList v.mem (memBytes s (z fi) (a.w / 8))))
      (hin fi (by omega))
    simp only [vwriteField, State.elemOffset, inside_cfg]
    simp only [Access.fieldReg] at hw hfield
    rw [hw, hfield]
    rfl

theorem storeFields_inside {s : State} {a : Access} {z : Nat → Int} {ei fi n : Nat} {v : View} (k : Nat) (bad : Bool)
    (hc : a.call = .write) (hl : s.trace.length ≤ v.trace.length) (hin : fieldsInside s a ei) (hn : fi + n ≤ a.nf + 1)
    (hok : ∀ j, calls s v ≤ j → j < calls s v + n → okAt s j) :
    ∃ bad', storeFields a.w a.reg ei a.emul z n fi (inside s v k bad)
      = .ok (inside s (fieldsFrom s a z ei fi n v) k bad') := by
  induction n generalizing fi v bad with
  | zero => exact ⟨bad, rfl⟩
  | succ n ih =>
    obtain ⟨b1, e1⟩ := vreadAt_inside s v k bad a.w (a.fieldReg fi * s.cfg.vlenb + ei * (a.w / 8)) (hin fi (by omega))
    have h1 := memWrite_inside (z fi) (a.w / 8) (elem s.cfg v.vrf a.w (a.fieldReg fi) ei).toNat k b1 hl
      (hok _ (Nat.le_refl _) (by omega))
    have hfield : field s a (z fi) ei fi v = { v with
        mem := Memory.writeList v.mem (memBytes s (z fi) (a.w / 8)) (elem s.cfg v.vrf a.w (a.fieldReg fi) ei).toNat
        trace := v.trace ++
          [⟨.write, s.addr (z fi), a.w / 8, (elem s.cfg v.vrf a.w (a.fieldReg fi) ei).toNat, none⟩] } := by
      unfold field; rw [if_pos hc]
    obtain ⟨h3, h4⟩ := field_calls (a := a) (z := z fi) (ei := ei) (fi := fi) hl
    obtain ⟨b2, e2⟩ := ih (fi := fi + 1) (v := field s a (z fi) ei fi v) b1 h4 (by omega)
      (fun j h5 h6 => hok j (by omega) (by omega))
    refine ⟨b2, ?_⟩
    rw [fieldsFrom_succ, ← e2]
    simp only [storeFields, vreadField, State.elemOffset, inside_cfg, bind, Except.bind]
    simp only [Access.fieldReg, elem, elemBytes] at e1 h1 hfield ⊢
    rw [e1]
    simp only [inside_addr]
    rw [h1, hfield]

/-- The first `n` fields loaded, and the next call faults (42_memory_access R505). -/
theorem loadFields_inside_fault {s : State} {a : Access} {z : Nat → Int} {ei fi n m : Nat} {v : View} (k : Nat) (bad : Bool)
    (hc : a.call = .read) (hl : s.trace.length ≤ v.trace.length) (hin : fieldsInside s a ei) (hn : fi + n ≤ a.nf + 1)
    (hok : ∀ j, calls s v ≤ j → j < calls s v + n → okAt s j) {kind : FaultKind}
    (ha : (answerAt s (calls s v + n)).agents = []) (hf : (answerAt s (calls s v + n)).fault = some kind) :
    loadFields a.w a.reg ei a.emul z (n + (m + 1)) fi (inside s v k bad)
      = .error (.trap (.memFault false ⟨kind, s.addr (z (fi + n))⟩)
          (inside s { fieldsFrom s a z ei fi n v with
            trace := (fieldsFrom s a z ei fi n v).trace ++
              [⟨.read, s.addr (z (fi + n)), a.w / 8, 0, some ⟨kind, s.addr (z (fi + n))⟩⟩] } k bad)) := by
  have hsplit : ∀ (n fi : Nat) (t : State), loadFields a.w a.reg ei a.emul z (n + (m + 1)) fi t
      = (do let t ← loadFields a.w a.reg ei a.emul z n fi t; loadFields a.w a.reg ei a.emul z (m + 1) (fi + n) t) := by
    intro n
    induction n with
    | zero => intro fi t; rw [Nat.zero_add]; rfl
    | succ n ih =>
      intro fi t
      rw [Nat.add_right_comm]
      simp only [loadFields, bind, Except.bind] at ih ⊢
      split
      · rfl
      · split
        · rfl
        · rw [ih]
          have : fi + 1 + n = fi + (n + 1) := by omega
          rw [this]
  rw [hsplit, loadFields_inside k bad hc hl hin hn hok]
  obtain ⟨h3, h4⟩ := fieldsFrom_calls (a := a) (z := z) (ei := ei) (fi := fi) (n := n) hl
  rw [← h3] at ha hf
  have h1 := memGet_inside_fault .read (z (fi + n)) (a.w / 8) k bad h4 ha hf
  simp only [bind, Except.bind, loadFields, memRead, inside_addr, h1]

theorem storeFields_inside_fault {s : State} {a : Access} {z : Nat → Int} {ei fi n m : Nat} {v : View} (k : Nat) (bad : Bool)
    (hc : a.call = .write) (hl : s.trace.length ≤ v.trace.length) (hin : fieldsInside s a ei) (hn : fi + n ≤ a.nf)
    (hok : ∀ j, calls s v ≤ j → j < calls s v + n → okAt s j) {kind : FaultKind}
    (ha : (answerAt s (calls s v + n)).agents = []) (hf : (answerAt s (calls s v + n)).fault = some kind) :
    ∃ bad', storeFields a.w a.reg ei a.emul z (n + (m + 1)) fi (inside s v k bad)
      = .error (.trap (.memFault true ⟨kind, s.addr (z (fi + n))⟩)
          (inside s { fieldsFrom s a z ei fi n v with
            trace := (fieldsFrom s a z ei fi n v).trace ++
              [⟨.write, s.addr (z (fi + n)), a.w / 8,
                (elem s.cfg (fieldsFrom s a z ei fi n v).vrf a.w (a.fieldReg (fi + n)) ei).toNat,
                some ⟨kind, s.addr (z (fi + n))⟩⟩] } k bad')) := by
  have hsplit : ∀ (n fi : Nat) (t : State), storeFields a.w a.reg ei a.emul z (n + (m + 1)) fi t
      = (do let t ← storeFields a.w a.reg ei a.emul z n fi t; storeFields a.w a.reg ei a.emul z (m + 1) (fi + n) t) := by
    intro n
    induction n with
    | zero => intro fi t; rw [Nat.zero_add]; rfl
    | succ n ih =>
      intro fi t
      rw [Nat.add_right_comm]
      simp only [storeFields, bind, Except.bind] at ih ⊢
      split
      · rfl
      · split
        · rfl
        · rw [ih]
          have : fi + 1 + n = fi + (n + 1) := by omega
          rw [this]
  obtain ⟨b1, e1⟩ := storeFields_inside (z := z) (fi := fi) (n := n) k bad hc hl hin (by omega) hok
  obtain ⟨h3, h4⟩ := fieldsFrom_calls (a := a) (z := z) (ei := ei) (fi := fi) (n := n) hl
  rw [← h3] at ha hf
  obtain ⟨b2, e2⟩ := vreadAt_inside s (fieldsFrom s a z ei fi n v) k b1 a.w
    (a.fieldReg (fi + n) * s.cfg.vlenb + ei * (a.w / 8)) (hin (fi + n) hn)
  have h1 := memWrite_inside_fault (z (fi + n)) (a.w / 8)
    (elem s.cfg (fieldsFrom s a z ei fi n v).vrf a.w (a.fieldReg (fi + n)) ei).toNat k b2 h4 ha hf
  refine ⟨b2, ?_⟩
  rw [hsplit, e1]
  simp only [bind, Except.bind, storeFields, vreadField, State.elemOffset, inside_cfg]
  simp only [Access.fieldReg, elem, elemBytes] at e2 h1 ⊢
  rw [e2]
  simp only [inside_addr]
  rw [h1]

/-! ### Loops of accesses -/

theorem elementSteps_append (act : Nat → State → Run (Bool × State)) (body : Nat → State → Run State) (m n lo : Nat)
    (t : State) : elementSteps act body (m + n) lo t
      = (do let t ← elementSteps act body m lo t; elementSteps act body n (lo + m) t) := by
  induction m generalizing lo t with
  | zero => rw [Nat.zero_add]; rfl
  | succ m ih =>
    rw [Nat.add_right_comm]
    simp only [elementSteps, bind, Except.bind] at ih ⊢
    have hlo : lo + 1 + m = lo + (m + 1) := by omega
    split
    · rfl
    · split
      · split
        · rfl
        · rw [ih, hlo]
      · simp only [ih, hlo]

/-- A loop whose bodies make memory calls runs the fold, as long as no call it makes faults. -/
theorem elementSteps_calls {s : State} {act : Nat → State → Run (Bool × State)} {body : Nat → State → Run State}
    {actV : View → Nat → Bool} {bodyV : Nat → View → View} {n lo : Nat}
    (hact : ∀ ei v bad, lo ≤ ei → ei < lo + n → ∃ bad', act ei (inside s v ei bad) = .ok (actV v ei, inside s v ei bad'))
    (hmono : ∀ ei v, s.trace.length ≤ v.trace.length →
      calls s v ≤ calls s (bodyV ei v) ∧ s.trace.length ≤ (bodyV ei v).trace.length)
    (hbody : ∀ ei v bad, lo ≤ ei → ei < lo + n → s.trace.length ≤ v.trace.length → actV v ei = true →
      (∀ j, calls s v ≤ j → j < calls s (bodyV ei v) → okAt s j) →
      ∃ bad', body ei (inside s v ei bad) = .ok (inside s (bodyV ei v) ei bad'))
    {v : View} (k : Nat) (bad : Bool) (hl : s.trace.length ≤ v.trace.length)
    (hok : ∀ j, calls s v ≤ j → j < calls s (foldFrom actV bodyV lo n v) → okAt s j) :
    (calls s v ≤ calls s (foldFrom actV bodyV lo n v) ∧ s.trace.length ≤ (foldFrom actV bodyV lo n v).trace.length) ∧
    ∃ k' bad', elementSteps act body n lo (inside s v k bad) = .ok (inside s (foldFrom actV bodyV lo n v) k' bad') := by
  induction n with
  | zero => exact ⟨⟨Nat.le_refl _, hl⟩, k, bad, rfl⟩
  | succ n ih =>
    have hsplit : foldFrom actV bodyV lo (n + 1) v
        = if actV (foldFrom actV bodyV lo n v) (lo + n) then bodyV (lo + n) (foldFrom actV bodyV lo n v)
          else foldFrom actV bodyV lo n v := by
      rw [foldFrom, List.range'_concat, runOver_append]
      simp [runOver]
    have hmono' : ∀ v : View, s.trace.length ≤ v.trace.length →
        calls s v ≤ calls s (if actV v (lo + n) then bodyV (lo + n) v else v) ∧
          s.trace.length ≤ (if actV v (lo + n) then bodyV (lo + n) v else v).trace.length := by
      intro v hl
      split
      · exact hmono _ _ hl
      · exact ⟨Nat.le_refl _, hl⟩
    have hlen : s.trace.length ≤ (foldFrom actV bodyV lo n v).trace.length :=
      runOver_induction (P := fun v : View => s.trace.length ≤ v.trace.length) (fun ei _ v hv _ => (hmono ei v hv).2) hl
    obtain ⟨h5, h6⟩ := hmono' (foldFrom actV bodyV lo n v) hlen
    rw [hsplit] at hok ⊢
    obtain ⟨⟨h1, h2⟩, k', b1, e1⟩ := ih (fun ei v b h3 h4 => hact ei v b h3 (by omega))
      (fun ei v b h3 h4 => hbody ei v b h3 (by omega)) (fun j h3 h4 => hok j h3 (by omega))
    refine ⟨⟨by omega, h6⟩, ?_⟩
    rw [elementSteps_append, e1]
    obtain ⟨b2, e2⟩ := hact (lo + n) (foldFrom actV bodyV lo n v) b1 (by omega) (by omega)
    by_cases ha : actV (foldFrom actV bodyV lo n v) (lo + n) = true
    · rw [if_pos ha] at hok ⊢
      obtain ⟨b3, e3⟩ := hbody (lo + n) (foldFrom actV bodyV lo n v) b2 (by omega) (by omega) hlen ha
        (fun j h7 h8 => hok j (by omega) h8)
      refine ⟨lo + n, b3, ?_⟩
      simp only [bind, Except.bind, elementSteps, inside_pin, e2, ha, if_true, e3]
    · rw [if_neg ha]
      refine ⟨lo + n, b2, ?_⟩
      simp only [bind, Except.bind, elementSteps, inside_pin, e2, ha]
      rfl

/-- A loop whose bodies make memory calls stops where a body stops. -/
theorem elementSteps_stop {s : State} {act : Nat → State → Run (Bool × State)} {body : Nat → State → Run State}
    {n m lo : Nat} {t : State} {v : View} {k' : Nat} {b b' : Bool} {e : Stop}
    (hpre : elementSteps act body n lo t = .ok (inside s v k' b))
    (hact : act (lo + n) (inside s v (lo + n) b) = .ok (true, inside s v (lo + n) b'))
    (hbody : body (lo + n) (inside s v (lo + n) b') = .error e) :
    elementSteps act body (n + (m + 1)) lo t = .error e := by
  rw [elementSteps_append, hpre]
  simp only [bind, Except.bind, elementSteps, inside_pin, hact, if_true, hbody]

theorem transfer_calls {s : State} {a : Access} {ei : Nat} {v : View} (hl : s.trace.length ≤ v.trace.length) :
    calls s (transfer s a ei v) = calls s v + (a.nf + 1) ∧ s.trace.length ≤ (transfer s a ei v).trace.length := by
  rw [transfer, fields_eq]
  exact fieldsFrom_calls hl

/-- A body that runs the whole of element `ei < bound` of an access, as long as its calls are answered Ok. -/
def RunsAccess (s : State) (a : Access) (bound : Nat) (body : Nat → State → Run State) : Prop :=
  ∀ ei v k bad, ei < bound → s.trace.length ≤ v.trace.length →
    (∀ j, calls s v ≤ j → j < calls s (transfer s a ei v) → okAt s j) →
    ∃ bad', body ei (inside s v k bad) = .ok (inside s (transfer s a ei v) k bad')

/-- A memory command with a mask completes with the fold of its transfers when the port is quiet. -/
theorem access_completes {s : State} {a : Access} {shapes : State → Bool} {body : Nat → State → Run State}
    (hq : quiet s) (ht : s.typingOk = true) (hs : shapes s = true) (hb : RunsAccess s a s.vlmax body) :
    Completes s (runCommand shapes (elementLoop (activeElement a.vm) body) s) (loop s (active s a.vm) (transfer s a)) :=
  masked_completes (P := fun v => s.trace.length ≤ v.trace.length) ht hs (Nat.le_refl _)
    (fun ei v k bad _ hm hl _ => ⟨(transfer_calls hl).2, hb ei v k bad hm hl (fun j _ _ => okAt_of_quiet hq j)⟩)

theorem fieldsInside_of_shape {s : State} {a : Access} {e ei : Nat} (ht : s.typingOk = true) (hw : a.w = 2 ^ e)
    (hemul : a.emul = s.emulLog e) (h : Shape.ok ⟨a.reg, a.w, a.emul, a.nf⟩ = true) (hei : ei < s.vlmax) :
    fieldsInside s a ei := by
  intro fi hfi
  rw [hw, hemul] at h
  have := State.operand_inside ht h hei hfi
  rw [Access.fieldReg, hw, hemul]
  exact this

theorem loadBody_runs {s : State} {a : Access} {bound : Nat} {body : Nat → State → Run State} (hc : a.call = .read)
    (hin : ∀ ei, ei < bound → fieldsInside s a ei)
    (hb : ∀ ei v k bad, ei < bound → ∃ bad', body ei (inside s v k bad)
      = loadFields a.w a.reg ei a.emul (a.addr v.vrf ei) (a.nf + 1) 0 (inside s v k bad')) : RunsAccess s a bound body := by
  intro ei v k bad hei hl hok
  obtain ⟨b, e⟩ := hb ei v k bad hei
  rw [(transfer_calls hl).1] at hok
  refine ⟨b, ?_⟩
  rw [e, loadFields_inside (n := a.nf + 1) k b hc hl (hin ei hei) (by omega) hok, transfer, fields_eq]

theorem storeBody_runs {s : State} {a : Access} {bound : Nat} {body : Nat → State → Run State} (hc : a.call = .write)
    (hin : ∀ ei, ei < bound → fieldsInside s a ei)
    (hb : ∀ ei v k bad, ei < bound → ∃ bad', body ei (inside s v k bad)
      = storeFields a.w a.reg ei a.emul (a.addr v.vrf ei) (a.nf + 1) 0 (inside s v k bad')) : RunsAccess s a bound body := by
  intro ei v k bad hei hl hok
  obtain ⟨b, e⟩ := hb ei v k bad hei
  rw [(transfer_calls hl).1] at hok
  obtain ⟨b', e'⟩ := storeFields_inside (z := a.addr v.vrf ei) (fi := 0) (n := a.nf + 1) k b hc hl (hin ei hei) (by omega) hok
  refine ⟨b', ?_⟩
  rw [e, e', transfer, fields_eq]

/-- The body of a load or store at an element whose field `fi` is the first call to fault. -/
def FaultsAccess (s : State) (a : Access) (bound : Nat) (body : Nat → State → Run State) : Prop :=
  ∀ ei v k bad fi kind, ei < bound → s.trace.length ≤ v.trace.length → fi ≤ a.nf →
    (∀ j, calls s v ≤ j → j < calls s v + fi → okAt s j) →
    (answerAt s (calls s v + fi)).agents = [] → (answerAt s (calls s v + fi)).fault = some kind →
    ∃ bad', body ei (inside s v k bad)
      = .error (.trap (.memFault (a.call = .write) ⟨kind, s.addr (a.addr v.vrf ei fi)⟩)
          (inside s { fields s a fi ei v with
            trace := (fields s a fi ei v).trace ++
              [⟨a.call, s.addr (a.addr v.vrf ei fi), a.w / 8,
                if a.call = .write then (elem s.cfg (fields s a fi ei v).vrf a.w (a.fieldReg fi) ei).toNat else 0,
                some ⟨kind, s.addr (a.addr v.vrf ei fi)⟩⟩] } k bad'))

theorem loadBody_faults {s : State} {a : Access} {bound : Nat} {body : Nat → State → Run State} (hc : a.call = .read)
    (hin : ∀ ei, ei < bound → fieldsInside s a ei)
    (hb : ∀ ei v k bad, ei < bound → ∃ bad', body ei (inside s v k bad)
      = loadFields a.w a.reg ei a.emul (a.addr v.vrf ei) (a.nf + 1) 0 (inside s v k bad')) : FaultsAccess s a bound body := by
  intro ei v k bad fi kind hei hl hfi hok ha hf
  obtain ⟨b, e⟩ := hb ei v k bad hei
  refine ⟨b, ?_⟩
  have hn : a.nf + 1 = fi + ((a.nf - fi) + 1) := by omega
  rw [e, hn, loadFields_inside_fault (z := a.addr v.vrf ei) (fi := 0) (n := fi) k b hc hl (hin ei hei) (by omega) hok ha hf,
    fields_eq]
  simp [hc]

theorem storeBody_faults {s : State} {a : Access} {bound : Nat} {body : Nat → State → Run State} (hc : a.call = .write)
    (hin : ∀ ei, ei < bound → fieldsInside s a ei)
    (hb : ∀ ei v k bad, ei < bound → ∃ bad', body ei (inside s v k bad)
      = storeFields a.w a.reg ei a.emul (a.addr v.vrf ei) (a.nf + 1) 0 (inside s v k bad')) :
    FaultsAccess s a bound body := by
  intro ei v k bad fi kind hei hl hfi hok ha hf
  obtain ⟨b, e⟩ := hb ei v k bad hei
  have hn : a.nf + 1 = fi + ((a.nf - fi) + 1) := by omega
  obtain ⟨b', e'⟩ := storeFields_inside_fault (z := a.addr v.vrf ei) (fi := 0) (n := fi) (m := a.nf - fi) k b hc hl
    (hin ei hei) (by omega) hok ha hf
  refine ⟨b', ?_⟩
  rw [e, hn, e', fields_eq]
  simp [hc]

theorem firstFault_okAt {s : State} {k : Nat} {kind : FaultKind} (h : firstFault s k kind) (j : Nat) (hj : j < k) :
    okAt s j := h.1 j hj

/-- The elements below `ei`, run in the machine. -/
theorem upTo_steps {s : State} {a : Access} {bound ei : Nat} {act : Nat → State → Run (Bool × State)}
    {body : Nat → State → Run State} (h1 : s.vstart ≤ ei) (h2 : ei ≤ bound)
    (hact : ∀ e v k bad, e < bound → ∃ bad', act e (inside s v k bad) = .ok (active s a.vm v e, inside s v k bad'))
    (hb : RunsAccess s a bound body) (hok : ∀ j, j < calls s (upTo s a ei) → okAt s j) :
    s.trace.length ≤ (upTo s a ei).trace.length ∧
    ∃ k' bad', elementSteps act body (ei - s.vstart) s.vstart (inside s (view s) s.vstart s.readUnwritten)
      = .ok (inside s (upTo s a ei) k' bad') := by
  have h := elementSteps_calls (s := s) (act := act) (body := body) (actV := active s a.vm) (bodyV := transfer s a)
    (n := ei - s.vstart) (lo := s.vstart)
    (fun e v bad _ _ => hact e v e bad (by omega))
    (fun e v hl => by
      obtain ⟨h3, h4⟩ := transfer_calls (a := a) (ei := e) hl
      exact ⟨by omega, h4⟩)
    (fun e v bad _ _ hl _ hok => hb e v e bad (by omega) hl hok)
    (v := view s) s.vstart s.readUnwritten (Nat.le_refl _) (fun j _ hj => hok j hj)
  exact ⟨h.1.2, h.2⟩

/-- The machine reaches the faulting call and stops there with the trap (42_memory_access R505). -/
theorem steps_fault {s : State} {a : Access} {bound ei fi m : Nat} {kind : FaultKind}
    {act : Nat → State → Run (Bool × State)} {body : Nat → State → Run State}
    (h1 : s.vstart ≤ ei) (h2 : ei < bound) (hfi : fi ≤ a.nf)
    (hact : ∀ e v k bad, e < bound → ∃ bad', act e (inside s v k bad) = .ok (active s a.vm v e, inside s v k bad'))
    (hb : RunsAccess s a bound body) (hfb : FaultsAccess s a bound body) (ha : active s a.vm (upTo s a ei) ei = true)
    (hf : firstFault s (calls s (before s a ei fi)) kind) :
    ∃ bad, elementSteps act body ((ei - s.vstart) + (m + 1)) s.vstart (inside s (view s) s.vstart s.readUnwritten)
      = .error (.trap (.memFault (a.call = .write) ⟨kind, s.addr (a.addr (upTo s a ei).vrf ei fi)⟩)
          (inside s (faulted s a ei fi kind) ei bad)) := by
  have hlen : s.trace.length ≤ (upTo s a ei).trace.length :=
    runOver_induction (P := fun v : View => s.trace.length ≤ v.trace.length)
      (fun e _ v hv _ => (transfer_calls (a := a) (ei := e) hv).2) (Nat.le_refl _)
  have hcalls : calls s (before s a ei fi) = calls s (upTo s a ei) + fi := by
    rw [before, fields_eq]; exact (fieldsFrom_calls hlen).1
  rw [hcalls] at hf
  obtain ⟨-, k, b1, e1⟩ := upTo_steps (act := act) (body := body) h1 (Nat.le_of_lt h2) hact hb
    (fun j hj => firstFault_okAt hf j (by omega))
  obtain ⟨b2, e2⟩ := hact ei (upTo s a ei) ei b1 h2
  rw [ha] at e2
  obtain ⟨b3, e3⟩ := hfb ei (upTo s a ei) ei b2 fi kind h2 hlen hfi (fun j _ hj => firstFault_okAt hf j hj) hf.2.1 hf.2.2
  refine ⟨b3, ?_⟩
  have hei : s.vstart + (ei - s.vstart) = ei := by omega
  refine elementSteps_stop e1 (by rw [hei]; exact e2) ?_
  rw [hei, e3]
  rfl

/-- A command whose body stops with a memory fault traps there (60_exceptions R1202, R1209). -/
theorem runCommand_traps {s : State} {shapes : State → Bool} {body : State → Run State} {v : View} {k : Nat} {store : Bool}
    {info : FaultInfo} (ht : s.typingOk = true) (hs : shapes s = true)
    (hb : ∃ bad, body (inside s (view s) s.vstart s.readUnwritten) = .error (.trap (.memFault store info) (inside s v k bad))) :
    Traps s (runCommand shapes body s) k store info v := by
  obtain ⟨bad, h⟩ := hb
  refine ⟨bad, ?_⟩
  rw [runCommand, if_pos ht, if_pos hs, clearHidden_eq_inside, h]
  rfl

/-- A masked memory command traps at its first faulting call (42_memory_access R505). -/
theorem access_traps {s : State} {a : Access} {shapes : State → Bool} {body : Nat → State → Run State} {ei fi : Nat}
    {kind : FaultKind} (ht : s.typingOk = true) (hs : shapes s = true) (hb : RunsAccess s a s.vlmax body)
    (hfb : FaultsAccess s a s.vlmax body) (h1 : s.vstart ≤ ei) (h2 : ei < s.vl) (hfi : fi ≤ a.nf)
    (ha : active s a.vm (upTo s a ei) ei = true) (hf : firstFault s (calls s (before s a ei fi)) kind) :
    Traps s (runCommand shapes (elementLoop (activeElement a.vm) body) s) ei (a.call = .write)
      ⟨kind, s.addr (a.addr (upTo s a ei).vrf ei fi)⟩ (faulted s a ei fi kind) := by
  apply runCommand_traps ht hs
  have hv := State.typingOk_vl ht
  have hn : s.vl - s.vstart = (ei - s.vstart) + ((s.vl - ei - 1) + 1) := by omega
  obtain ⟨bad, e⟩ := steps_fault (m := s.vl - ei - 1) (act := activeElement a.vm) (body := body) h1
    (Nat.lt_of_lt_of_le h2 hv) hfi (fun e v k bad he => active_inside ht he a.vm v k bad) hb hfb ha hf
  exact ⟨bad, by rw [elementLoop, inside_vl, inside_vstart, hn, e]⟩

/-! ### The classes -/

theorem unitLoad_completes {s : State} {eLog nf vd rs1 : Nat} {vm : Bool} (hq : quiet s) (ht : s.typingOk = true)
    (hs : s.memoryOk eLog vd nf = true) :
    Completes s (unitLoad eLog vm nf vd rs1 s) (loop s (active s vm) (transfer s (unitAccess s .read eLog vm nf vd rs1))) :=
  access_completes (a := unitAccess s .read eLog vm nf vd rs1) hq ht hs
    (loadBody_runs rfl (fun _ h => fieldsInside_of_shape ht rfl rfl hs h) (fun _ _ _ bad _ => ⟨bad, rfl⟩))

theorem unitStore_completes {s : State} {eLog nf vs3 rs1 : Nat} {vm : Bool} (hq : quiet s) (ht : s.typingOk = true)
    (hs : s.memoryOk eLog vs3 nf = true) :
    Completes s (unitStore eLog vm nf vs3 rs1 s)
      (loop s (active s vm) (transfer s (unitAccess s .write eLog vm nf vs3 rs1))) :=
  access_completes (a := unitAccess s .write eLog vm nf vs3 rs1) hq ht hs
    (storeBody_runs rfl (fun _ h => fieldsInside_of_shape ht rfl rfl hs h) (fun _ _ _ bad _ => ⟨bad, rfl⟩))

theorem stridedLoad_completes {s : State} {eLog nf vd rs1 rs2 : Nat} {vm : Bool} (hq : quiet s) (ht : s.typingOk = true)
    (hs : s.memoryOk eLog vd nf = true) :
    Completes s (stridedLoad eLog vm nf vd rs1 rs2 s)
      (loop s (active s vm) (transfer s (stridedAccess s .read eLog vm nf vd rs1 rs2))) :=
  access_completes (a := stridedAccess s .read eLog vm nf vd rs1 rs2) hq ht hs
    (loadBody_runs rfl (fun _ h => fieldsInside_of_shape ht rfl rfl hs h) (fun _ _ _ bad _ => ⟨bad, rfl⟩))

theorem stridedStore_completes {s : State} {eLog nf vs3 rs1 rs2 : Nat} {vm : Bool} (hq : quiet s) (ht : s.typingOk = true)
    (hs : s.memoryOk eLog vs3 nf = true) :
    Completes s (stridedStore eLog vm nf vs3 rs1 rs2 s)
      (loop s (active s vm) (transfer s (stridedAccess s .write eLog vm nf vs3 rs1 rs2))) :=
  access_completes (a := stridedAccess s .write eLog vm nf vs3 rs1 rs2) hq ht hs
    (storeBody_runs rfl (fun _ h => fieldsInside_of_shape ht rfl rfl hs h) (fun _ _ _ bad _ => ⟨bad, rfl⟩))

theorem index_inside {s : State} {eLog vs2 ei : Nat} (ht : s.typingOk = true) (h : s.memoryOk eLog vs2 0 = true)
    (hei : ei < s.vlmax) : vs2 * s.cfg.vlenb + ei * (2 ^ eLog / 8) + 2 ^ eLog / 8 ≤ s.vrfSize := by
  have := State.operand_inside ht h hei (Nat.le_refl 0)
  simpa [State.elemOffset] using this

theorem indexedLoad_completes {s : State} {eLog nf vd rs1 vs2 : Nat} {vm : Bool} (hq : quiet s) (ht : s.typingOk = true)
    (hs : indexedShapes eLog vd vs2 nf s = true) :
    Completes s (indexedLoad eLog vm nf vd rs1 vs2 s)
      (loop s (active s vm) (transfer s (indexedAccess s .read eLog vm nf vd rs1 vs2))) := by
  have hs' := hs
  simp only [indexedShapes, Bool.and_eq_true] at hs
  refine access_completes (a := indexedAccess s .read eLog vm nf vd rs1 vs2) hq ht hs' (loadBody_runs rfl
    (fun _ h => fieldsInside_of_shape (e := s.sewLog) ht rfl (State.emulLog_sewLog s).symm hs.1 h)
    (fun ei v k bad hei => ?_))
  obtain ⟨b, e⟩ := vread_inside s v k bad (2 ^ eLog) vs2 ei (index_inside ht hs.2 hei)
  refine ⟨b, ?_⟩
  simp only [e, bind, Except.bind]
  rfl

theorem indexedStore_completes {s : State} {eLog nf vs3 rs1 vs2 : Nat} {vm : Bool} (hq : quiet s) (ht : s.typingOk = true)
    (hs : indexedShapes eLog vs3 vs2 nf s = true) :
    Completes s (indexedStore eLog vm nf vs3 rs1 vs2 s)
      (loop s (active s vm) (transfer s (indexedAccess s .write eLog vm nf vs3 rs1 vs2))) := by
  have hs' := hs
  simp only [indexedShapes, Bool.and_eq_true] at hs
  refine access_completes (a := indexedAccess s .write eLog vm nf vs3 rs1 vs2) hq ht hs' (storeBody_runs rfl
    (fun _ h => fieldsInside_of_shape (e := s.sewLog) ht rfl (State.emulLog_sewLog s).symm hs.1 h)
    (fun ei v k bad hei => ?_))
  obtain ⟨b, e⟩ := vread_inside s v k bad (2 ^ eLog) vs2 ei (index_inside ht hs.2 hei)
  refine ⟨b, ?_⟩
  simp only [e, bind, Except.bind]
  rfl

theorem unitLoad_traps {s : State} {eLog nf vd rs1 ei fi : Nat} {vm : Bool} {kind : FaultKind} (ht : s.typingOk = true)
    (hs : s.memoryOk eLog vd nf = true) (h1 : s.vstart ≤ ei) (h2 : ei < s.vl) (hfi : fi ≤ nf)
    (ha : active s vm (upTo s (unitAccess s .read eLog vm nf vd rs1) ei) ei = true)
    (hf : firstFault s (calls s (before s (unitAccess s .read eLog vm nf vd rs1) ei fi)) kind) :
    Traps s (unitLoad eLog vm nf vd rs1 s) ei false
      ⟨kind, s.addr ((unitAccess s .read eLog vm nf vd rs1).addr (upTo s (unitAccess s .read eLog vm nf vd rs1) ei).vrf ei fi)⟩
      (faulted s (unitAccess s .read eLog vm nf vd rs1) ei fi kind) := by
  have hin := fun ei (h : ei < s.vlmax) => fieldsInside_of_shape (a := unitAccess s .read eLog vm nf vd rs1) ht rfl rfl hs h
  exact access_traps (a := unitAccess s .read eLog vm nf vd rs1) ht hs
    (loadBody_runs rfl hin (fun _ _ _ bad _ => ⟨bad, rfl⟩)) (loadBody_faults rfl hin (fun _ _ _ bad _ => ⟨bad, rfl⟩))
    h1 h2 hfi ha hf

theorem unitStore_traps {s : State} {eLog nf vs3 rs1 ei fi : Nat} {vm : Bool} {kind : FaultKind} (ht : s.typingOk = true)
    (hs : s.memoryOk eLog vs3 nf = true) (h1 : s.vstart ≤ ei) (h2 : ei < s.vl) (hfi : fi ≤ nf)
    (ha : active s vm (upTo s (unitAccess s .write eLog vm nf vs3 rs1) ei) ei = true)
    (hf : firstFault s (calls s (before s (unitAccess s .write eLog vm nf vs3 rs1) ei fi)) kind) :
    Traps s (unitStore eLog vm nf vs3 rs1 s) ei true
      ⟨kind, s.addr ((unitAccess s .write eLog vm nf vs3 rs1).addr (upTo s (unitAccess s .write eLog vm nf vs3 rs1) ei).vrf ei fi)⟩
      (faulted s (unitAccess s .write eLog vm nf vs3 rs1) ei fi kind) := by
  have hin := fun ei (h : ei < s.vlmax) => fieldsInside_of_shape (a := unitAccess s .write eLog vm nf vs3 rs1) ht rfl rfl hs h
  exact access_traps (a := unitAccess s .write eLog vm nf vs3 rs1) ht hs
    (storeBody_runs rfl hin (fun _ _ _ bad _ => ⟨bad, rfl⟩)) (storeBody_faults rfl hin (fun _ _ _ bad _ => ⟨bad, rfl⟩))
    h1 h2 hfi ha hf

theorem stridedLoad_traps {s : State} {eLog nf vd rs1 rs2 ei fi : Nat} {vm : Bool} {kind : FaultKind} (ht : s.typingOk = true)
    (hs : s.memoryOk eLog vd nf = true) (h1 : s.vstart ≤ ei) (h2 : ei < s.vl) (hfi : fi ≤ nf)
    (ha : active s vm (upTo s (stridedAccess s .read eLog vm nf vd rs1 rs2) ei) ei = true)
    (hf : firstFault s (calls s (before s (stridedAccess s .read eLog vm nf vd rs1 rs2) ei fi)) kind) :
    Traps s (stridedLoad eLog vm nf vd rs1 rs2 s) ei false
      ⟨kind, s.addr ((stridedAccess s .read eLog vm nf vd rs1 rs2).addr (upTo s (stridedAccess s .read eLog vm nf vd rs1 rs2) ei).vrf ei fi)⟩
      (faulted s (stridedAccess s .read eLog vm nf vd rs1 rs2) ei fi kind) := by
  have hin := fun ei (h : ei < s.vlmax) => fieldsInside_of_shape (a := stridedAccess s .read eLog vm nf vd rs1 rs2) ht rfl rfl hs h
  exact access_traps (a := stridedAccess s .read eLog vm nf vd rs1 rs2) ht hs
    (loadBody_runs rfl hin (fun _ _ _ bad _ => ⟨bad, rfl⟩)) (loadBody_faults rfl hin (fun _ _ _ bad _ => ⟨bad, rfl⟩))
    h1 h2 hfi ha hf

theorem stridedStore_traps {s : State} {eLog nf vs3 rs1 rs2 ei fi : Nat} {vm : Bool} {kind : FaultKind} (ht : s.typingOk = true)
    (hs : s.memoryOk eLog vs3 nf = true) (h1 : s.vstart ≤ ei) (h2 : ei < s.vl) (hfi : fi ≤ nf)
    (ha : active s vm (upTo s (stridedAccess s .write eLog vm nf vs3 rs1 rs2) ei) ei = true)
    (hf : firstFault s (calls s (before s (stridedAccess s .write eLog vm nf vs3 rs1 rs2) ei fi)) kind) :
    Traps s (stridedStore eLog vm nf vs3 rs1 rs2 s) ei true
      ⟨kind, s.addr ((stridedAccess s .write eLog vm nf vs3 rs1 rs2).addr (upTo s (stridedAccess s .write eLog vm nf vs3 rs1 rs2) ei).vrf ei fi)⟩
      (faulted s (stridedAccess s .write eLog vm nf vs3 rs1 rs2) ei fi kind) := by
  have hin := fun ei (h : ei < s.vlmax) => fieldsInside_of_shape (a := stridedAccess s .write eLog vm nf vs3 rs1 rs2) ht rfl rfl hs h
  exact access_traps (a := stridedAccess s .write eLog vm nf vs3 rs1 rs2) ht hs
    (storeBody_runs rfl hin (fun _ _ _ bad _ => ⟨bad, rfl⟩)) (storeBody_faults rfl hin (fun _ _ _ bad _ => ⟨bad, rfl⟩))
    h1 h2 hfi ha hf

theorem indexedLoad_traps {s : State} {eLog nf vd rs1 vs2 ei fi : Nat} {vm : Bool} {kind : FaultKind} (ht : s.typingOk = true)
    (hs : indexedShapes eLog vd vs2 nf s = true) (h1 : s.vstart ≤ ei) (h2 : ei < s.vl) (hfi : fi ≤ nf)
    (ha : active s vm (upTo s (indexedAccess s .read eLog vm nf vd rs1 vs2) ei) ei = true)
    (hf : firstFault s (calls s (before s (indexedAccess s .read eLog vm nf vd rs1 vs2) ei fi)) kind) :
    Traps s (indexedLoad eLog vm nf vd rs1 vs2 s) ei false
      ⟨kind, s.addr ((indexedAccess s .read eLog vm nf vd rs1 vs2).addr (upTo s (indexedAccess s .read eLog vm nf vd rs1 vs2) ei).vrf ei fi)⟩
      (faulted s (indexedAccess s .read eLog vm nf vd rs1 vs2) ei fi kind) := by
  have hs' := hs
  simp only [indexedShapes, Bool.and_eq_true] at hs
  have hin := fun ei (h : ei < s.vlmax) => fieldsInside_of_shape (a := indexedAccess s .read eLog vm nf vd rs1 vs2)
    (e := s.sewLog) ht rfl (State.emulLog_sewLog s).symm hs.1 h
  have hb : ∀ ei (v : View) (k : Nat) (bad : Bool), ei < s.vlmax → ∃ bad',
      (fun ei s => (do
        let (idx, s) ← vread (2 ^ eLog) vs2 ei s
        loadFields s.sew vd ei s.lmulLog (indexedAddr (s.xval rs1) idx.toNat (s.sew / 8)) (nf + 1) 0 s : Run State))
          ei (inside s v k bad)
        = loadFields s.sew vd ei s.lmulLog ((indexedAccess s .read eLog vm nf vd rs1 vs2).addr v.vrf ei) (nf + 1) 0
            (inside s v k bad') := by
    intro ei v k bad hei
    obtain ⟨b, e⟩ := vread_inside s v k bad (2 ^ eLog) vs2 ei (index_inside ht hs.2 hei)
    refine ⟨b, ?_⟩
    simp only [e, bind, Except.bind]
    rfl
  exact access_traps (a := indexedAccess s .read eLog vm nf vd rs1 vs2) ht hs' (loadBody_runs rfl hin hb) (loadBody_faults rfl hin hb)
    h1 h2 hfi ha hf

theorem indexedStore_traps {s : State} {eLog nf vs3 rs1 vs2 ei fi : Nat} {vm : Bool} {kind : FaultKind} (ht : s.typingOk = true)
    (hs : indexedShapes eLog vs3 vs2 nf s = true) (h1 : s.vstart ≤ ei) (h2 : ei < s.vl) (hfi : fi ≤ nf)
    (ha : active s vm (upTo s (indexedAccess s .write eLog vm nf vs3 rs1 vs2) ei) ei = true)
    (hf : firstFault s (calls s (before s (indexedAccess s .write eLog vm nf vs3 rs1 vs2) ei fi)) kind) :
    Traps s (indexedStore eLog vm nf vs3 rs1 vs2 s) ei true
      ⟨kind, s.addr ((indexedAccess s .write eLog vm nf vs3 rs1 vs2).addr (upTo s (indexedAccess s .write eLog vm nf vs3 rs1 vs2) ei).vrf ei fi)⟩
      (faulted s (indexedAccess s .write eLog vm nf vs3 rs1 vs2) ei fi kind) := by
  have hs' := hs
  simp only [indexedShapes, Bool.and_eq_true] at hs
  have hin := fun ei (h : ei < s.vlmax) => fieldsInside_of_shape (a := indexedAccess s .write eLog vm nf vs3 rs1 vs2)
    (e := s.sewLog) ht rfl (State.emulLog_sewLog s).symm hs.1 h
  have hb : ∀ ei (v : View) (k : Nat) (bad : Bool), ei < s.vlmax → ∃ bad',
      (fun ei s => (do
        let (idx, s) ← vread (2 ^ eLog) vs2 ei s
        storeFields s.sew vs3 ei s.lmulLog (indexedAddr (s.xval rs1) idx.toNat (s.sew / 8)) (nf + 1) 0 s : Run State))
          ei (inside s v k bad)
        = storeFields s.sew vs3 ei s.lmulLog ((indexedAccess s .write eLog vm nf vs3 rs1 vs2).addr v.vrf ei) (nf + 1) 0
            (inside s v k bad') := by
    intro ei v k bad hei
    obtain ⟨b, e⟩ := vread_inside s v k bad (2 ^ eLog) vs2 ei (index_inside ht hs.2 hei)
    refine ⟨b, ?_⟩
    simp only [e, bind, Except.bind]
    rfl
  exact access_traps (a := indexedAccess s .write eLog vm nf vs3 rs1 vs2) ht hs' (storeBody_runs rfl hin hb) (storeBody_faults rfl hin hb)
    h1 h2 hfi ha hf

end Sys2Proof.Reference
end

