-- ==== Sys2Proof/Laws/ByteAccesses.lean ====
section
/-! SUPPORT. Whole-register and mask accesses, and fault-only-first loads, as folds. -/

namespace Sys2Proof.Reference

open Sys2Proof.Machine

/-! ### Byte loops -/

/-- A byte loop is an element loop with every element active (40_element_engine R407). -/
theorem byteSteps_eq (body : Nat → State → Run State) (n j : Nat) (t : State) :
    byteSteps body n j t = elementSteps everyElement body n j t := by
  induction n generalizing j t with
  | zero => rfl
  | succ n ih =>
    simp only [byteSteps, elementSteps, everyElement, bind, Except.bind, if_true] at ih ⊢
    split
    · rfl
    · exact ih _ _

/-- The bytes of a byte-granular command that lies in the register file. -/
def bytesInside (s : State) (reg n : Nat) : Prop := ∀ j < n, reg * s.cfg.vlenb + j < s.vrfSize

theorem byte_fieldsInside {s : State} {call : CallKind} {reg rs1 n : Nat} (h : bytesInside s reg n) (j : Nat) (hj : j < n) :
    fieldsInside s (byteAccess s call reg rs1) j := by
  intro fi hfi
  have h1 := h j hj
  have h2 : fi = 0 := by simpa [byteAccess] using hfi
  simp only [byteAccess, Access.fieldReg, h2, Nat.zero_mul, Nat.add_zero]
  omega

theorem byteAccess_eq (s : State) (call : CallKind) (reg rs1 j : Nat) (v : View) :
    transfer s (byteAccess s call reg rs1) j v
      = fieldsFrom s (byteAccess s call reg rs1) ((byteAccess s call reg rs1).addr v.vrf j) j 0 1 v := fields_eq ..

theorem loadByte_eq {s : State} {vd rs1 j : Nat} (v : View) (k : Nat) (bad : Bool) :
    loadByte vd rs1 j (inside s v k bad)
      = loadFields 8 vd j 0 ((byteAccess s .read vd rs1).addr v.vrf j) 1 0 (inside s v k bad) := by
  simp only [loadByte, loadFields, vwriteField, State.elemOffset, byteAccess, inside_xval, inside_addr, bind, Except.bind]
  have h8 : (8 : Nat) / 8 = 1 := rfl
  rw [h8]
  split
  · rfl
  · simp only [Nat.zero_mul, Nat.add_zero, Nat.mul_one]
    split <;> simp_all

theorem storeByte_eq {s : State} {vs3 rs1 j : Nat} (v : View) (k : Nat) (bad : Bool) :
    storeByte vs3 rs1 j (inside s v k bad)
      = storeFields 8 vs3 j 0 ((byteAccess s .write vs3 rs1).addr v.vrf j) 1 0 (inside s v k bad) := by
  simp only [storeByte, storeFields, vreadField, State.elemOffset, byteAccess, inside_cfg, bind, Except.bind]
  have h8 : (8 : Nat) / 8 = 1 := rfl
  rw [h8]
  simp only [Nat.zero_mul, Nat.add_zero, Nat.mul_one]
  by_cases h : vs3 * s.cfg.vlenb + j + 8 / 8 ≤ s.vrfSize
  · obtain ⟨b, e⟩ := vreadAt_inside s v k bad 8 _ h
    rw [e]
    simp only [inside_xval, inside_addr]
    split <;> simp_all
  · have e : vreadAt 8 (vs3 * s.cfg.vlenb + j) (inside s v k bad) = .error (.fault .vrfOutOfRange) := by
      rw [vreadAt, inside_vrfSize, if_neg h]
    rw [e]

/-- A byte-granular command completes with the fold of its transfers when the port is quiet. -/
theorem byte_completes {s : State} {a : Access} {n : Nat} {shapes : State → Bool} {body : Nat → State → Run State}
    {run : State → Run State}
    (hrun : run (inside s (view s) s.vstart s.readUnwritten)
      = byteSteps body (n - s.vstart) s.vstart (inside s (view s) s.vstart s.readUnwritten))
    (hq : quiet s) (ht : s.typingOk = true) (hs : shapes s = true)
    (hb : RunsAccess s a n body) :
    Completes s (runCommand shapes run s) (runOver (fun _ _ => true) (transfer s a) (byteIndices s n) (view s)) := by
  apply runCommand_completes ht hs
  rw [hrun, byteSteps_eq]
  obtain ⟨k, b, e⟩ := elementSteps_fold (rep := inside s) (inside_pin s) (P := fun v => s.trace.length ≤ v.trace.length)
    (act := everyElement) (body := body) (actV := fun _ _ => true) (bodyV := transfer s a) (n := n - s.vstart)
    (lo := s.vstart) (fun _ _ bad _ _ => ⟨bad, rfl⟩)
    (fun ei v bad _ h2 hl _ => ⟨(transfer_calls hl).2, hb ei v ei bad (by omega) hl (fun j _ _ => okAt_of_quiet hq j)⟩)
    (v := view s) s.vstart s.readUnwritten (Nat.le_refl _)
  exact ⟨k, b, e⟩

/-- A byte-granular command traps at its first faulting call (42_memory_access R525). -/
theorem byte_traps {s : State} {a : Access} {n : Nat} {shapes : State → Bool} {body : Nat → State → Run State}
    {run : State → Run State} {j : Nat} {kind : FaultKind} (hvm : a.vm = true)
    (hrun : run (inside s (view s) s.vstart s.readUnwritten)
      = byteSteps body (n - s.vstart) s.vstart (inside s (view s) s.vstart s.readUnwritten))
    (ht : s.typingOk = true) (hs : shapes s = true) (hb : RunsAccess s a n body) (hfb : FaultsAccess s a n body)
    (h1 : s.vstart ≤ j) (h2 : j < n) (hf : firstFault s (calls s (before s a j 0)) kind) :
    Traps s (runCommand shapes run s) j (a.call = .write) ⟨kind, s.addr (a.addr (upTo s a j).vrf j 0)⟩
      (faulted s a j 0 kind) := by
  apply runCommand_traps ht hs
  have hn : n - s.vstart = (j - s.vstart) + ((n - j - 1) + 1) := by omega
  have hact : ∀ (v : View) (e : Nat), active s a.vm v e = true := by intro v e; simp [active, hvm]
  obtain ⟨bad, e⟩ := steps_fault (m := n - j - 1) (act := everyElement) (body := body) h1 h2 (Nat.zero_le _)
    (fun e v k bad _ => ⟨bad, by rw [hact]; rfl⟩) hb hfb (hact _ _) hf
  exact ⟨bad, by rw [hrun, byteSteps_eq, hn, e]⟩

theorem loadByte_runs {s : State} {vd rs1 n : Nat} (h : bytesInside s vd n) :
    RunsAccess s (byteAccess s .read vd rs1) n (loadByte vd rs1) :=
  loadBody_runs rfl (byte_fieldsInside h) (fun _ v k bad _ => ⟨bad, loadByte_eq v k bad⟩)

theorem loadByte_faults {s : State} {vd rs1 n : Nat} (h : bytesInside s vd n) :
    FaultsAccess s (byteAccess s .read vd rs1) n (loadByte vd rs1) :=
  loadBody_faults rfl (byte_fieldsInside h) (fun _ v k bad _ => ⟨bad, loadByte_eq v k bad⟩)

theorem storeByte_runs {s : State} {vs3 rs1 n : Nat} (h : bytesInside s vs3 n) :
    RunsAccess s (byteAccess s .write vs3 rs1) n (storeByte vs3 rs1) :=
  storeBody_runs rfl (byte_fieldsInside h) (fun _ v k bad _ => ⟨bad, storeByte_eq v k bad⟩)

theorem storeByte_faults {s : State} {vs3 rs1 n : Nat} (h : bytesInside s vs3 n) :
    FaultsAccess s (byteAccess s .write vs3 rs1) n (storeByte vs3 rs1) :=
  storeBody_faults rfl (byte_fieldsInside h) (fun _ v k bad _ => ⟨bad, storeByte_eq v k bad⟩)

theorem wholeOk_inside {s : State} {reg n : Nat} (h : wholeOk reg n = true) : bytesInside s reg (s.cfg.vlenb * n) := by
  intro j hj
  unfold wholeOk numVregs at h
  simp only [Bool.and_eq_true, decide_eq_true_eq] at h
  have h1 : (reg + n) * s.cfg.vlenb ≤ 32 * s.cfg.vlenb := Nat.mul_le_mul_right _ h.2
  rw [Nat.add_mul, Nat.mul_comm n] at h1
  simp only [State.vrfSize, numVregs]
  omega

theorem maskBytes_inside {s : State} {reg : Nat} (ht : s.typingOk = true) (hreg : reg < 32) :
    bytesInside s reg s.maskBytes := by
  intro j hj
  have hv := State.typingOk_vl ht
  have h1 := State.mask_inside (reg := reg) (ei := 8 * j) ht hreg (by simp only [State.maskBytes] at hj; omega)
  simp only [State.maskOffset] at h1
  omega

theorem wholeLoad_completes {s : State} {n vd rs1 : Nat} (hq : quiet s) (ht : s.typingOk = true)
    (hs : wholeOk vd n = true) : Completes s (wholeLoad n vd rs1 s)
      (runOver (fun _ _ => true) (transfer s (byteAccess s .read vd rs1)) (byteIndices s (s.cfg.vlenb * n)) (view s)) :=
  byte_completes rfl hq ht hs (loadByte_runs (wholeOk_inside hs))

theorem wholeStore_completes {s : State} {n vs3 rs1 : Nat} (hq : quiet s) (ht : s.typingOk = true)
    (hs : wholeOk vs3 n = true) : Completes s (wholeStore n vs3 rs1 s)
      (runOver (fun _ _ => true) (transfer s (byteAccess s .write vs3 rs1)) (byteIndices s (s.cfg.vlenb * n)) (view s)) :=
  byte_completes rfl hq ht hs (storeByte_runs (wholeOk_inside hs))

theorem maskLoad_completes {s : State} {vd rs1 : Nat} (hq : quiet s) (ht : s.typingOk = true) (hvd : vd < 32) :
    Completes s (execVlmV vd rs1 s)
      (runOver (fun _ _ => true) (transfer s (byteAccess s .read vd rs1)) (byteIndices s ((s.vl + 7) / 8)) (view s)) :=
  byte_completes rfl hq ht rfl (loadByte_runs (maskBytes_inside ht hvd))

theorem maskStore_completes {s : State} {vs3 rs1 : Nat} (hq : quiet s) (ht : s.typingOk = true) (hvs3 : vs3 < 32) :
    Completes s (execVsmV vs3 rs1 s)
      (runOver (fun _ _ => true) (transfer s (byteAccess s .write vs3 rs1)) (byteIndices s ((s.vl + 7) / 8)) (view s)) :=
  byte_completes rfl hq ht rfl (storeByte_runs (maskBytes_inside ht hvs3))

/-! ### Fault-only-first loads -/

/-- The calls of a load's fields `fi` to `fi + n - 1`, and the values they get. -/
def probes (s : State) (a : Access) (z : Nat → Int) (m : Memory) (fi n : Nat) : List MemEvent :=
  (List.range' fi n).map (fun f =>
    ⟨a.call, s.addr (z f), a.w / 8, Memory.readList m (memBytes s (z f) (a.w / 8)), none⟩)

theorem probes_succ (s : State) (a : Access) (z : Nat → Int) (m : Memory) (fi n : Nat) :
    probes s a z m fi (n + 1)
      = ⟨a.call, s.addr (z fi), a.w / 8, Memory.readList m (memBytes s (z fi) (a.w / 8)), none⟩ :: probes s a z m (fi + 1) n :=
  rfl

theorem field_of_load {s : State} {a : Access} (hc : a.call ≠ .write) (z : Int) (ei fi : Nat) (v : View) :
    field s a z ei fi v = { (v.put s.cfg a.w (a.fieldReg fi) ei
        (BitVec.ofNat a.w (Memory.readList v.mem (memBytes s z (a.w / 8))))) with
      trace := v.trace ++ [⟨a.call, s.addr z, a.w / 8, Memory.readList v.mem (memBytes s z (a.w / 8)), none⟩] } := by
  unfold field; rw [if_neg hc]

theorem fieldsFrom_of_load {s : State} {a : Access} (hc : a.call ≠ .write) (z : Nat → Int) (ei fi n : Nat) (v : View) :
    (fieldsFrom s a z ei fi n v).mem = v.mem
      ∧ (fieldsFrom s a z ei fi n v).trace = v.trace ++ probes s a z v.mem fi n := by
  induction n generalizing fi v with
  | zero => exact ⟨rfl, by simp [fieldsFrom, probes]⟩
  | succ n ih =>
    obtain ⟨h1, h2⟩ := ih (fi + 1) (field s a (z fi) ei fi v)
    rw [fieldsFrom_succ, h1, h2, field_of_load hc, probes_succ]
    exact ⟨rfl, by simp [View.put]⟩

/-- Probing every field: the values, and the calls recorded (42_memory_access R520). -/
theorem probeFields_inside {s : State} {a : Access} {z : Nat → Int} {fi n : Nat} {v : View} (k : Nat) (bad : Bool)
    (hc : a.call = .probe) (hl : s.trace.length ≤ v.trace.length)
    (hok : ∀ j, calls s v ≤ j → j < calls s v + n → okAt s j) :
    probeFields a.w z n fi (inside s v k bad)
      = ((probes s a z v.mem fi n).map MemEvent.data,
         inside s { v with trace := v.trace ++ probes s a z v.mem fi n } k bad) := by
  induction n generalizing fi v with
  | zero => simp [probeFields, probes]
  | succ n ih =>
    have h1 := memGet_inside .probe (z fi) (a.w / 8) k bad hl (hok _ (Nat.le_refl _) (by omega))
    obtain ⟨h3, h4⟩ := calls_snoc (v' := { v with trace := v.trace ++
      [⟨.probe, s.addr (z fi), a.w / 8, Memory.readList v.mem (memBytes s (z fi) (a.w / 8)), none⟩] }) hl rfl
    have ih' := ih (fi := fi + 1) (v := { v with trace := v.trace ++
      [⟨.probe, s.addr (z fi), a.w / 8, Memory.readList v.mem (memBytes s (z fi) (a.w / 8)), none⟩] }) h4
      (fun j h5 h6 => hok j (by omega) (by omega))
    simp only [probeFields, memProbe, inside_addr, h1]
    rw [ih', probes_succ, hc]
    simp

/-- Writing the probed values gives the view a plain load gives (42_memory_access R520). -/
theorem writeFields_inside {s : State} {a : Access} {z : Nat → Int} {ei fi n : Nat} {v : View} (tr : List MemEvent) (k : Nat)
    (bad : Bool) (hc : a.call ≠ .write) (hl : s.trace.length ≤ v.trace.length) (hin : fieldsInside s a ei)
    (hn : fi + n ≤ a.nf + 1) :
    writeFields a.w a.reg ei a.emul fi ((probes s a z v.mem fi n).map MemEvent.data)
        (inside s { v with trace := tr } k bad)
      = .ok (inside s { fieldsFrom s a z ei fi n v with trace := tr } k bad) := by
  induction n generalizing fi v with
  | zero => rfl
  | succ n ih =>
    have hmem : (field s a (z fi) ei fi v).mem = v.mem := by rw [field_of_load hc]; rfl
    have ih' := ih (fi := fi + 1) (v := field s a (z fi) ei fi v)
      (field_calls hl).2 (by omega)
    have hw := vwriteAt_inside s { v with trace := tr } k bad a.w (a.fieldReg fi * s.cfg.vlenb + ei * (a.w / 8))
      (BitVec.ofNat a.w (Memory.readList v.mem (memBytes s (z fi) (a.w / 8)))) (hin fi (by omega))
    rw [probes_succ, fieldsFrom_succ, List.map_cons, ← ih', hmem]
    simp only [writeFields, vwriteField, State.elemOffset, inside_cfg, bind, Except.bind]
    simp only [Access.fieldReg] at hw
    rw [hw, field_of_load hc]
    rfl

/-- The body of a fault-only-first load runs the whole element while no probe faults. -/
theorem firstFaultBody_runs {s : State} {eLog nf vd rs1 : Nat} {vm : Bool} (ht : s.typingOk = true)
    (hs : s.memoryOk eLog vd nf = true) :
    RunsAccess s (unitAccess s .probe eLog vm nf vd rs1) s.vlmax
      (fun ei t => firstFaultBody (2 ^ eLog) nf vd rs1 (t.emulLog eLog) ei t) := by
  intro ei v k bad hei hl hok
  rw [(transfer_calls hl).1] at hok
  have h1 := probeFields_inside (a := unitAccess s .probe eLog vm nf vd rs1)
    (z := (unitAccess s .probe eLog vm nf vd rs1).addr v.vrf ei) (fi := 0) (n := nf + 1) k bad rfl hl hok
  have h2 := writeFields_inside (a := unitAccess s .probe eLog vm nf vd rs1)
    (z := (unitAccess s .probe eLog vm nf vd rs1).addr v.vrf ei) (ei := ei) (fi := 0) (n := nf + 1) (v := v)
    (v.trace ++ probes s (unitAccess s .probe eLog vm nf vd rs1)
      ((unitAccess s .probe eLog vm nf vd rs1).addr v.vrf ei) v.mem 0 (nf + 1)) k bad (by simp [unitAccess]) hl
    (fieldsInside_of_shape ht rfl rfl hs hei) (by simp [unitAccess])
  refine ⟨bad, ?_⟩
  have h3 := (fieldsFrom_of_load (s := s) (a := unitAccess s .probe eLog vm nf vd rs1) (by simp [unitAccess])
    ((unitAccess s .probe eLog vm nf vd rs1).addr v.vrf ei) ei 0 (nf + 1) v).2
  have h1' : probeFields (2 ^ eLog) (unitAddr ((inside s v k bad).xval rs1) nf (2 ^ eLog / 8) ei) (nf + 1) 0 (inside s v k bad)
      = _ := h1
  simp only [firstFaultBody]
  rw [h1']
  simp only [inside_ffPending, inside_emulLog]
  refine Eq.trans h2 ?_
  rw [transfer, fields_eq, ← h3]
  rfl

theorem firstFaultLoad_completes {s : State} {eLog nf vd rs1 : Nat} {vm : Bool} (hq : quiet s) (ht : s.typingOk = true)
    (hs : s.memoryOk eLog vd nf = true) :
    Completes s (firstFaultLoad eLog vm nf vd rs1 s)
      (loop s (active s vm) (transfer s (unitAccess s .probe eLog vm nf vd rs1))) :=
  access_completes (a := unitAccess s .probe eLog vm nf vd rs1) hq ht hs (firstFaultBody_runs ht hs)

/-- Fields probed Ok up to the first fault, which is held pending (10_state R117, 42_memory_access R520). -/
theorem probeFields_inside_fault {s : State} {a : Access} {z : Nat → Int} {fi n m : Nat} {v : View} (k : Nat) (bad : Bool)
    (hc : a.call = .probe) (hl : s.trace.length ≤ v.trace.length)
    (hok : ∀ j, calls s v ≤ j → j < calls s v + n → okAt s j) {kind : FaultKind}
    (ha : (answerAt s (calls s v + n)).agents = []) (hf : (answerAt s (calls s v + n)).fault = some kind) :
    ∃ vs, probeFields a.w z (n + (m + 1)) fi (inside s v k bad)
      = (vs, { inside s { v with trace := v.trace ++ probes s a z v.mem fi n ++
            [⟨.probe, s.addr (z (fi + n)), a.w / 8, 0, some ⟨kind, s.addr (z (fi + n))⟩⟩] } k bad with
          ffPending := some ⟨kind, s.addr (z (fi + n))⟩ }) := by
  induction n generalizing fi v with
  | zero =>
    have h1 := memGet_inside_fault .probe (z fi) (a.w / 8) k bad hl ha hf
    refine ⟨[], ?_⟩
    rw [Nat.zero_add]
    simp only [probeFields, memProbe, inside_addr, h1, probes, List.range'_zero, List.map_nil, List.append_nil, Nat.add_zero]
  | succ n ih =>
    have h1 := memGet_inside .probe (z fi) (a.w / 8) k bad hl (hok _ (Nat.le_refl _) (by omega))
    obtain ⟨h3, h4⟩ := calls_snoc (v' := { v with trace := v.trace ++
      [⟨.probe, s.addr (z fi), a.w / 8, Memory.readList v.mem (memBytes s (z fi) (a.w / 8)), none⟩] }) hl rfl
    have hpos : ∀ c, c + 1 + n = c + (n + 1) := by omega
    obtain ⟨vs, ih'⟩ := ih (fi := fi + 1) (v := { v with trace := v.trace ++
      [⟨.probe, s.addr (z fi), a.w / 8, Memory.readList v.mem (memBytes s (z fi) (a.w / 8)), none⟩] }) h4
      (fun j h5 h6 => hok j (by omega) (by omega)) (by rw [h3, hpos]; exact ha) (by rw [h3, hpos]; exact hf)
    refine ⟨Memory.readList v.mem (memBytes s (z fi) (a.w / 8)) :: vs, ?_⟩
    have hN : n + 1 + (m + 1) = (n + (m + 1)) + 1 := by omega
    rw [hN]
    generalize n + (m + 1) = N at ih' ⊢
    simp only [probeFields, memProbe, inside_addr, h1]
    rw [ih', probes_succ, hc]
    simp [hpos]

/-- The view a fault-only-first load leaves at a fault of element `ei`: the elements below it, and the calls made. -/
theorem firstFaultBody_faults {s : State} {eLog nf vd rs1 ei fi : Nat} {vm : Bool} {kind : FaultKind} {v : View} (k : Nat)
    (bad : Bool) (hl : s.trace.length ≤ v.trace.length) (hfi : fi ≤ nf)
    (hok : ∀ j, calls s v ≤ j → j < calls s v + fi → okAt s j)
    (ha : (answerAt s (calls s v + fi)).agents = []) (hf : (answerAt s (calls s v + fi)).fault = some kind) :
    let a := unitAccess s .probe eLog vm nf vd rs1
    let z := s.addr (a.addr v.vrf ei fi)
    let tr := (fields s a fi ei v).trace ++ [⟨.probe, z, 2 ^ eLog / 8, 0, some ⟨kind, z⟩⟩]
    firstFaultBody (2 ^ eLog) nf vd rs1 ((inside s v k bad).emulLog eLog) ei (inside s v k bad)
      = if ei = 0 then
          .error (.trap (.memFault false ⟨kind, z⟩)
            { inside s { v with trace := tr } k bad with ffPending := some ⟨kind, z⟩ })
        else .error (.finished { inside s { v with trace := tr } k bad with vl := ei }) := by
  intro a z tr
  obtain ⟨vs, h1⟩ := probeFields_inside_fault (a := a) (z := a.addr v.vrf ei) (fi := 0) (n := fi) (m := nf - fi) k bad rfl hl
    hok ha hf
  have hn : fi + (nf - fi + 1) = nf + 1 := by omega
  rw [hn] at h1
  have h3 := (fieldsFrom_of_load (s := s) (a := a) (by simp [a, unitAccess]) (a.addr v.vrf ei) ei 0 fi v).2
  rw [← fields_eq] at h3
  rw [← h3, Nat.zero_add] at h1
  have h1' : probeFields (2 ^ eLog) (unitAddr ((inside s v k bad).xval rs1) nf (2 ^ eLog / 8) ei) (nf + 1) 0 (inside s v k bad)
      = _ := h1
  simp only [firstFaultBody]
  rw [h1']
  rfl

theorem firstFaultLoad_steps {s : State} {eLog nf vd rs1 ei fi : Nat} {vm : Bool} {kind : FaultKind}
    (ht : s.typingOk = true) (hs : s.memoryOk eLog vd nf = true)
    (h1 : s.vstart ≤ ei) (h2 : ei < s.vl) (hfi : fi ≤ nf)
    (ha : active s vm (upTo s (unitAccess s .probe eLog vm nf vd rs1) ei) ei = true)
    (hf : firstFault s (calls s (before s (unitAccess s .probe eLog vm nf vd rs1) ei fi)) kind) :
    let a := unitAccess s .probe eLog vm nf vd rs1
    let z := s.addr (a.addr (upTo s a ei).vrf ei fi)
    let v : View := { upTo s a ei with trace := (faulted s a ei fi kind).trace }
    ∃ bad, elementLoop (activeElement vm) (fun ei t => firstFaultBody (2 ^ eLog) nf vd rs1 (t.emulLog eLog) ei t)
        (inside s (view s) s.vstart s.readUnwritten)
      = if ei = 0 then
          .error (.trap (.memFault false ⟨kind, z⟩) { inside s v ei bad with ffPending := some ⟨kind, z⟩ })
        else .error (.finished { inside s v ei bad with vl := ei }) := by
  intro a z v
  have hv := State.typingOk_vl ht
  have hlt : ei < s.vlmax := Nat.lt_of_lt_of_le h2 hv
  have hlen : s.trace.length ≤ (upTo s a ei).trace.length :=
    runOver_induction (P := fun v : View => s.trace.length ≤ v.trace.length)
      (fun e _ v hv _ => (transfer_calls (a := a) (ei := e) hv).2) (Nat.le_refl _)
  have hcalls : calls s (before s a ei fi) = calls s (upTo s a ei) + fi := by
    rw [before, fields_eq]; exact (fieldsFrom_calls hlen).1
  rw [hcalls] at hf
  obtain ⟨-, k, b1, e1⟩ := upTo_steps (a := a) (act := activeElement vm)
    (body := fun ei t => firstFaultBody (2 ^ eLog) nf vd rs1 (t.emulLog eLog) ei t) h1 (Nat.le_of_lt hlt)
    (fun e v k bad he => active_inside ht he vm v k bad) (firstFaultBody_runs ht hs)
    (fun j hj => firstFault_okAt hf j (by omega))
  obtain ⟨b2, e2⟩ := active_inside ht hlt vm (upTo s a ei) ei b1
  rw [ha] at e2
  have hb := firstFaultBody_faults (vm := vm) (eLog := eLog) (vd := vd) (rs1 := rs1) (ei := ei) (v := upTo s a ei) ei b2 hlen hfi
    (fun j _ hj => firstFault_okAt hf j hj) hf.2.1 hf.2.2
  refine ⟨b2, ?_⟩
  have hn : s.vl - s.vstart = (ei - s.vstart) + ((s.vl - ei - 1) + 1) := by omega
  have hei : s.vstart + (ei - s.vstart) = ei := by omega
  rw [elementLoop, inside_vl, inside_vstart, hn]
  have hgen : ∀ e, firstFaultBody (2 ^ eLog) nf vd rs1 ((inside s (upTo s a ei) ei b2).emulLog eLog) ei
      (inside s (upTo s a ei) ei b2) = .error e →
      elementSteps (activeElement vm) (fun ei t => firstFaultBody (2 ^ eLog) nf vd rs1 (t.emulLog eLog) ei t)
        (ei - s.vstart + (s.vl - ei - 1 + 1)) s.vstart (inside s (view s) s.vstart s.readUnwritten) = .error e := by
    intro e he
    exact elementSteps_stop e1 (by rw [hei]; exact e2) (by rw [hei]; exact he)
  by_cases h0 : ei = 0
  · rw [if_pos h0]
    apply hgen
    rw [hb, if_pos h0]
    rfl
  · rw [if_neg h0]
    apply hgen
    rw [hb, if_neg h0]
    rfl

/-- A fault on element 0 traps with nothing written (42_memory_access R520). -/
theorem firstFaultLoad_traps {s : State} {eLog nf vd rs1 fi : Nat} {vm : Bool} {kind : FaultKind}
    (ht : s.typingOk = true) (hs : s.memoryOk eLog vd nf = true)
    (h1 : s.vstart = 0) (h2 : 0 < s.vl) (hfi : fi ≤ nf)
    (ha : active s vm (view s) 0 = true)
    (hf : firstFault s (calls s (before s (unitAccess s .probe eLog vm nf vd rs1) 0 fi)) kind) :
    let a := unitAccess s .probe eLog vm nf vd rs1
    Traps s (firstFaultLoad eLog vm nf vd rs1 s) 0 false ⟨kind, s.addr (a.addr s.vrf 0 fi)⟩
      { view s with trace := (faulted s a 0 fi kind).trace } := by
  intro a
  have hu : upTo s a 0 = view s := by simp [upTo, runOver]
  obtain ⟨bad, e⟩ := firstFaultLoad_steps (vd := vd) (rs1 := rs1) ht hs (Nat.le_of_eq h1) h2 hfi
    (by have := hu; simp only [a] at this; rw [this]; exact ha) hf
  refine ⟨bad, ?_⟩
  rw [firstFaultLoad, runCommand, if_pos ht, if_pos hs, clearHidden_eq_inside, e, if_pos rfl]
  have hu' : upTo s (unitAccess s .probe eLog vm nf vd rs1) 0 = view s := hu
  simp only [hu']
  rfl

/-- A fault above element 0 cuts `vl` and completes (42_memory_access R520). -/
theorem firstFaultLoad_truncates {s : State} {eLog nf vd rs1 ei fi : Nat} {vm : Bool} {kind : FaultKind}
    (ht : s.typingOk = true) (hs : s.memoryOk eLog vd nf = true)
    (h1 : s.vstart ≤ ei) (h2 : ei < s.vl) (h0 : 0 < ei) (hfi : fi ≤ nf)
    (ha : active s vm (upTo s (unitAccess s .probe eLog vm nf vd rs1) ei) ei = true)
    (hf : firstFault s (calls s (before s (unitAccess s .probe eLog vm nf vd rs1) ei fi)) kind) :
    let a := unitAccess s .probe eLog vm nf vd rs1
    Truncates s (firstFaultLoad eLog vm nf vd rs1 s) ei
      { upTo s a ei with trace := (faulted s a ei fi kind).trace } := by
  intro a
  obtain ⟨bad, e⟩ := firstFaultLoad_steps (vd := vd) (rs1 := rs1) ht hs h1 h2 hfi ha hf
  refine ⟨bad, ?_⟩
  rw [firstFaultLoad, runCommand, if_pos ht, if_pos hs, clearHidden_eq_inside, e, if_neg (by omega)]
  rfl

end Sys2Proof.Reference
end

