-- ==== Sys2Proof/Laws/Elements.lean ====
section
/-! SUPPORT. Gathers, slides and reductions as folds. -/

namespace Sys2Proof.Reference

open Sys2Proof.Machine

theorem permute_completes {s : State} {vm : Bool} {vd vs2 : Nat} {src : Src} {body : Nat → State → Run State}
    {bodyV : Nat → View → View} (ht : s.typingOk = true) (hs : sameWidthShapes vd vs2 src s = true)
    (hbody : ∀ ei v k bad, ei < s.vl → ei < s.vlmax →
      ∃ bad', body ei (inside s v k bad) = .ok (inside s (bodyV ei v) k bad')) :
    Completes s (permute vm vd vs2 src body s) (loop s (active s vm) bodyV) :=
  masked_completes (P := fun _ => True) ht hs trivial (fun ei v k bad h1 h2 _ _ => ⟨trivial, hbody ei v k bad h1 h2⟩)

theorem gather_completes {s : State} {vm : Bool} {vd vs2 : Nat} {src : Src} (ht : s.typingOk = true)
    (hs : sameWidthShapes vd vs2 src s = true) :
    Completes s (permute vm vd vs2 src (gatherBody s.sew s.vlmax vd vs2 src) s)
      (loop s (active s vm) (gathered s s.sew vd vs2 src)) := by
  refine permute_completes ht hs (fun ei v k bad _ hm => ?_)
  simp only [sameWidthShapes, Bool.and_eq_true] at hs
  obtain ⟨b1, e1⟩ := indexOperand_inside s v k bad s.sew src ei (srcInside_of_ok ht hs.2 hm)
  have hd := State.narrow_inside ht hs.1.1 hm
  simp only [gatherBody, e1, bind, Except.bind, gathered]
  by_cases hi : s.vlmax ≤ index s s.sew src v ei
  · refine ⟨b1, ?_⟩
    rw [if_pos hi, if_neg (by omega), vwrite_inside (h := hd)]
  · obtain ⟨b2, e2⟩ := vread_inside s v k b1 s.sew vs2 (index s s.sew src v ei) (State.narrow_inside ht hs.1.2 (by omega))
    refine ⟨b2, ?_⟩
    rw [if_neg hi, if_pos (by omega), e2]
    exact vwrite_inside (h := hd) ..

theorem slideUp_completes {s : State} {vm : Bool} {vd vs2 : Nat} {src : Src} (ht : s.typingOk = true)
    (hs : sameWidthShapes vd vs2 src s = true) :
    Completes s (permute vm vd vs2 src (slideUpBody s.sew vd vs2 src) s)
      (loop s (active s vm) (slidUp s s.sew vd vs2 src)) := by
  refine permute_completes ht hs (fun ei v k bad _ hm => ?_)
  simp only [sameWidthShapes, Bool.and_eq_true] at hs
  obtain ⟨b1, e1⟩ := indexOperand_inside s v k bad s.sew src ei (srcInside_of_ok ht hs.2 hm)
  have hd := State.narrow_inside ht hs.1.1 hm
  simp only [slideUpBody, e1, bind, Except.bind, slidUp]
  by_cases hi : index s s.sew src v ei ≤ ei
  · obtain ⟨b2, e2⟩ := vread_inside s v k b1 s.sew vs2 (ei - index s s.sew src v ei)
      (State.narrow_inside ht hs.1.2 (by omega))
    refine ⟨b2, ?_⟩
    rw [if_pos hi, if_pos hi, e2]
    exact vwrite_inside (h := hd) ..
  · exact ⟨b1, by rw [if_neg hi, if_neg hi]⟩

theorem slideDown_completes {s : State} {vm : Bool} {vd vs2 : Nat} {src : Src} (ht : s.typingOk = true)
    (hs : sameWidthShapes vd vs2 src s = true) :
    Completes s (permute vm vd vs2 src (slideDownBody s.sew s.vlmax vd vs2 src) s)
      (loop s (active s vm) (slidDown s s.sew vd vs2 src)) := by
  refine permute_completes ht hs (fun ei v k bad _ hm => ?_)
  simp only [sameWidthShapes, Bool.and_eq_true] at hs
  obtain ⟨b1, e1⟩ := indexOperand_inside s v k bad s.sew src ei (srcInside_of_ok ht hs.2 hm)
  have hd := State.narrow_inside ht hs.1.1 hm
  simp only [slideDownBody, e1, bind, Except.bind, slidDown]
  by_cases hi : ei + index s s.sew src v ei < s.vlmax
  · obtain ⟨b2, e2⟩ := vread_inside s v k b1 s.sew vs2 (ei + index s s.sew src v ei) (State.narrow_inside ht hs.1.2 hi)
    refine ⟨b2, ?_⟩
    rw [if_pos hi, if_pos hi, e2]
    exact vwrite_inside (h := hd) ..
  · refine ⟨b1, ?_⟩
    rw [if_neg hi, if_neg hi]
    exact vwrite_inside (h := hd) ..

theorem slideOneUp_completes {s : State} {vm : Bool} {vd vs2 rs1 : Nat} (ht : s.typingOk = true)
    (hs : sameWidthShapes vd vs2 (.scalar rs1) s = true) :
    Completes s (permute vm vd vs2 (.scalar rs1) (slide1UpBody s.sew vd vs2 rs1) s)
      (loop s (active s vm) (slidOneUp s s.sew vd vs2 rs1)) := by
  refine permute_completes ht hs (fun ei v k bad _ hm => ?_)
  simp only [sameWidthShapes, Bool.and_eq_true] at hs
  have hd := State.narrow_inside ht hs.1.1 hm
  simp only [slide1UpBody, slidOneUp]
  by_cases hi : ei = 0
  · refine ⟨bad, ?_⟩
    rw [if_pos hi, if_pos hi]
    exact vwrite_inside (h := hd) ..
  · obtain ⟨b2, e2⟩ := vread_inside s v k bad s.sew vs2 (ei - 1) (State.narrow_inside ht hs.1.2 (by omega))
    refine ⟨b2, ?_⟩
    rw [if_neg hi, if_neg hi]
    simp only [e2, bind, Except.bind]
    exact vwrite_inside (h := hd) ..

theorem slideOneDown_completes {s : State} {vm : Bool} {vd vs2 rs1 : Nat} (ht : s.typingOk = true)
    (hs : sameWidthShapes vd vs2 (.scalar rs1) s = true) :
    Completes s (permute vm vd vs2 (.scalar rs1) (slide1DownBody s.sew s.vl vd vs2 rs1) s)
      (loop s (active s vm) (slidOneDown s s.sew vd vs2 rs1)) := by
  refine permute_completes ht hs (fun ei v k bad hl hm => ?_)
  simp only [sameWidthShapes, Bool.and_eq_true] at hs
  have hd := State.narrow_inside ht hs.1.1 hm
  have hv := State.typingOk_vl ht
  simp only [slide1DownBody, slidOneDown]
  by_cases hi : ei + 1 = s.vl
  · refine ⟨bad, ?_⟩
    rw [if_pos hi, if_pos hi]
    exact vwrite_inside (h := hd) ..
  · obtain ⟨b2, e2⟩ := vread_inside s v k bad s.sew vs2 (ei + 1) (State.narrow_inside ht hs.1.2 (by omega))
    refine ⟨b2, ?_⟩
    rw [if_neg hi, if_neg hi]
    simp only [e2, bind, Except.bind]
    exact vwrite_inside (h := hd) ..

/-! ### Reductions -/

theorem foldSteps_inside {s : State} {w aw vs2 : Nat} {vm : Bool} {ext : BitVec w → BitVec aw}
    {op : BitVec aw → BitVec aw → BitVec aw} (v : View) {n lo : Nat}
    (hact : ∀ ei k bad, lo ≤ ei → ei < lo + n →
      ∃ bad', activeElement vm ei (inside s v k bad) = .ok (active s vm v ei, inside s v k bad'))
    (h2 : ∀ ei, lo ≤ ei → ei < lo + n → vs2 * s.cfg.vlenb + ei * (w / 8) + w / 8 ≤ s.vrfSize)
    (k : Nat) (bad : Bool) (acc : BitVec aw) :
    ∃ k' bad', foldSteps vm (reduceBody w aw vs2 ext op) n lo acc (inside s v k bad)
      = .ok (((List.range' lo n).filter (active s vm v)).foldl
          (fun acc ei => op acc (ext (elem s.cfg v.vrf w vs2 ei))) acc, inside s v k' bad') := by
  induction n generalizing lo acc k bad with
  | zero => exact ⟨k, bad, rfl⟩
  | succ n ih =>
    obtain ⟨b1, e1⟩ := hact lo lo bad (Nat.le_refl _) (by omega)
    have ih' := @ih (lo + 1) (fun ei k b h3 h4 => hact ei k b (by omega) (by omega))
      (fun ei h3 h4 => h2 ei (by omega) (by omega))
    rw [List.range'_succ]
    by_cases ha : active s vm v lo = true
    · obtain ⟨b2, e2⟩ := vread_inside s v lo b1 w vs2 lo (h2 lo (Nat.le_refl _) (by omega))
      obtain ⟨k', b3, e3⟩ := ih' lo b2 (op acc (ext (elem s.cfg v.vrf w vs2 lo)))
      refine ⟨k', b3, ?_⟩
      rw [List.filter_cons_of_pos ha, List.foldl_cons, ← e3]
      simp only [foldSteps, inside_pin, e1, ha, bind, Except.bind, if_true, reduceBody, e2]
    · obtain ⟨k', b3, e3⟩ := ih' lo b1 acc
      refine ⟨k', b3, ?_⟩
      rw [List.filter_cons_of_neg ha, ← e3]
      simp only [foldSteps, inside_pin, e1, ha, bind, Except.bind]
      rfl

theorem reduceRun_completes {s : State} {w aw vd vs2 vs1 : Nat} {vm : Bool} {ext : BitVec w → BitVec aw}
    {op : BitVec aw → BitVec aw → BitVec aw} {shapes : State → Bool} (hc : s.cfg.wf = true) (ht : s.typingOk = true)
    (hs : shapes s = true) (hw : ∀ ei, ei < s.vlmax → vs2 * s.cfg.vlenb + ei * (w / 8) + w / 8 ≤ s.vrfSize)
    (hd : elementOk aw vd = true) (h1 : elementOk aw vs1 = true) :
    Completes s (runCommand shapes (reduceRun w aw vm vd vs2 vs1 ext op) s)
      (reduced s w aw vm vd vs2 vs1 (fun acc x => op acc (ext x))) := by
  apply runCommand_completes ht hs
  by_cases h0 : s.vl = 0 ∧ s.cfg.redWritesEmpty = false
  · refine ⟨s.vstart, s.readUnwritten, ?_⟩
    rw [reduceRun, if_pos (by simpa using h0), reduced, if_pos h0]
  · obtain ⟨b1, e1⟩ := vread_inside s (view s) s.vstart s.readUnwritten aw vs1 0 (element_inside hc h1)
    obtain ⟨k, b2, e2⟩ := foldSteps_inside (s := s) (w := w) (aw := aw) (vs2 := vs2) (vm := vm) (ext := ext) (op := op) (view s)
      (n := s.vl - s.vstart) (lo := s.vstart)
      (fun ei k bad h3 h4 => active_inside ht (lt_vlmax_of_element ht h3 h4).2 vm (view s) k bad)
      (fun ei h3 h4 => hw ei (lt_vlmax_of_element ht h3 h4).2) s.vstart b1 (elem s.cfg s.vrf aw vs1 0)
    refine ⟨k, b2, ?_⟩
    rw [reduceRun, if_neg (by simpa using h0), reduced, if_neg h0]
    simp only [e1, bind, Except.bind, inside_vl, inside_vstart]
    have e2' := e2
    simp only [view] at e2' ⊢
    rw [e2']
    exact vwrite_inside (h := element_inside hc hd) ..

theorem reduce_completes {s : State} {vm : Bool} {vd vs2 vs1 : Nat} (op : (w : Nat) → BitVec w → BitVec w → BitVec w)
    (hc : s.cfg.wf = true) (ht : s.typingOk = true) (hs : reductionShapes s.sew vd vs2 vs1 s = true) :
    Completes s (reduce vm vd vs2 vs1 op s) (reduced s s.sew s.sew vm vd vs2 vs1 (op s.sew)) := by
  have hs' := hs
  simp only [reductionShapes, Bool.and_eq_true] at hs
  exact reduceRun_completes hc ht hs' (fun ei h => State.narrow_inside ht hs.1.1 h) hs.1.2 hs.2

theorem reduceWide_completes {s : State} {vm : Bool} {vd vs2 vs1 : Nat} (ext : (w w2 : Nat) → BitVec w → BitVec w2)
    (op : (w : Nat) → BitVec w → BitVec w → BitVec w)
    (hc : s.cfg.wf = true) (ht : s.typingOk = true) (hs : reductionShapes (2 * s.sew) vd vs2 vs1 s = true) :
    Completes s (reduceWide vm vd vs2 vs1 ext op s)
      (reduced s s.sew (2 * s.sew) vm vd vs2 vs1 (fun acc x => op (2 * s.sew) acc (ext s.sew (2 * s.sew) x))) := by
  have hs' := hs
  simp only [reductionShapes, Bool.and_eq_true] at hs
  exact reduceRun_completes hc ht hs' (fun ei h => State.narrow_inside ht hs.1.1 h) hs.1.2 hs.2

end Sys2Proof.Reference
end

