-- ==== Sys2Proof/Laws/Memory.lean ====
section
/-! SUPPORT. The byte store: read after write, what a write leaves alone, and the canonical form. -/

namespace Sys2Proof.Machine

theorem Memory.above_trans {j k : Nat} (h : j ≤ k) : ∀ {m : Memory}, Memory.above k m = true → Memory.above j m = true
  | [], _ => rfl
  | (a, b) :: m, hm => by
    simp only [Memory.above, Bool.and_eq_true, decide_eq_true_eq] at hm ⊢
    exact ⟨by omega, Memory.above_trans h hm.2⟩

/-- Every address of a list above `k` reads as unlisted at or below `k`. -/
theorem Memory.read_of_above {k j : Nat} (hj : j ≤ k) :
    ∀ {m : Memory}, Memory.above k m = true → Memory.read m j = unlistedByte
  | [], _ => rfl
  | (a, b) :: m, hm => by
    simp only [Memory.above, Bool.and_eq_true, decide_eq_true_eq] at hm
    have : j ≠ a := by omega
    simp [Memory.read, this, Memory.read_of_above hj hm.2]

/-- Reading after a write: the written byte at its address, the old byte elsewhere. -/
theorem Memory.read_write (m : Memory) (k j : Nat) (v : Byte) (hm : Memory.wf m = true) :
    Memory.read (Memory.write m k v) j = if j = k then v else Memory.read m j := by
  induction m with
  | nil =>
    by_cases hv : v = unlistedByte <;> by_cases hj : j = k <;> simp [Memory.write, Memory.read, hv, hj]
  | cons c m ih =>
    obtain ⟨a, b⟩ := c
    simp only [Memory.wf, Bool.and_eq_true] at hm
    have ih := ih hm.2
    simp only [Memory.write]
    by_cases h1 : k < a
    · rw [if_pos h1]
      have hk : Memory.read ((a, b) :: m) k = unlistedByte := by
        have : k ≠ a := by omega
        simp [Memory.read, this, Memory.read_of_above (by omega : k ≤ a) hm.1.2]
      by_cases hv : v = unlistedByte
      · rw [if_pos hv]
        by_cases hj : j = k
        · subst hj; rw [if_pos rfl, hk, hv]
        · rw [if_neg hj]
      · rw [if_neg hv]
        by_cases hj : j = k <;> simp [Memory.read, hj]
    · rw [if_neg h1]
      by_cases h2 : k = a
      · subst h2
        rw [if_pos rfl]
        by_cases hv : v = unlistedByte
        · rw [if_pos hv]
          by_cases hj : j = k
          · subst hj; rw [if_pos rfl, hv]; exact Memory.read_of_above (Nat.le_refl _) hm.1.2
          · simp [Memory.read, hj]
        · rw [if_neg hv]
          by_cases hj : j = k <;> simp [Memory.read, hj]
      · rw [if_neg h2]
        by_cases hj : j = a
        · simp only [Memory.read, hj, if_true]
          rw [if_neg (by omega)]
        · simp only [Memory.read, if_neg hj, ih]

theorem Memory.above_write {m : Memory} {j k : Nat} {v : Byte} (hj : j < k) (hm : Memory.above j m = true) :
    Memory.above j (Memory.write m k v) = true := by
  induction m with
  | nil => by_cases hv : v = unlistedByte <;> simp [Memory.write, Memory.above, hv, hj]
  | cons c m ih =>
    obtain ⟨a, b⟩ := c
    have hm' := hm
    simp only [Memory.above, Bool.and_eq_true, decide_eq_true_eq] at hm
    simp only [Memory.write]
    split
    · split
      · exact hm'
      · simp [Memory.above, hj, hm]
    · split
      · split
        · exact hm.2
        · simp [Memory.above, hj, hm.2]
      · simp [Memory.above, hm.1, ih hm.2]

/-- A write keeps the canonical form. -/
theorem Memory.wf_write {m : Memory} (k : Nat) (v : Byte) (hm : Memory.wf m = true) :
    Memory.wf (Memory.write m k v) = true := by
  induction m with
  | nil =>
    by_cases hv : v = unlistedByte
    · simp [Memory.write, Memory.wf, hv]
    · simp [Memory.write, Memory.wf, Memory.above, hv]
  | cons c m ih =>
    obtain ⟨a, b⟩ := c
    have hm' := hm
    simp only [Memory.wf, Bool.and_eq_true] at hm
    simp only [Memory.write]
    split
    next h =>
      split
      · exact hm'
      next hv =>
        simp only [Memory.wf, Memory.above, Bool.and_eq_true, decide_eq_true_eq, bne_iff_ne]
        exact ⟨⟨hv, h, Memory.above_trans (by omega) hm.1.2⟩, ⟨by simpa using hm.1.1, hm.1.2⟩, hm.2⟩
    next h =>
      split
      next h2 =>
        subst h2
        split
        · exact hm.2
        next hv => simp [Memory.wf, hv, hm.1.2, hm.2]
      next h2 =>
        simp only [Memory.wf, Bool.and_eq_true]
        exact ⟨⟨hm.1.1, Memory.above_write (by omega) hm.1.2⟩, ih hm.2⟩

theorem Memory.wf_writeList {m : Memory} (as : List Nat) (v : Nat) (hm : Memory.wf m = true) :
    Memory.wf (Memory.writeList m as v) = true := by
  induction as generalizing m v with
  | nil => exact hm
  | cons a as ih => exact ih _ (Memory.wf_write _ _ hm)

theorem Memory.wf_fill {m : Memory} (v : Byte) (as : List Nat) (hm : Memory.wf m = true) :
    Memory.wf (Memory.fill m v as) = true := by
  induction as generalizing m with
  | nil => exact hm
  | cons a as ih => exact ih (Memory.wf_write _ _ hm)

theorem Memory.wf_writeCells {m : Memory} (cs : List Host.Cell) (hm : Memory.wf m = true) :
    Memory.wf (Memory.writeCells m cs) = true := by
  induction cs generalizing m with
  | nil => exact hm
  | cons c cs ih => exact ih (Memory.wf_write _ _ hm)

/-- A list of stores leaves every other address alone. -/
theorem Memory.read_writeList_of_notMem {m : Memory} (hm : Memory.wf m = true) (as : List Nat) (v j : Nat) (hj : j ∉ as) :
    Memory.read (Memory.writeList m as v) j = Memory.read m j := by
  induction as generalizing m v with
  | nil => rfl
  | cons a as ih =>
    simp only [List.mem_cons, not_or] at hj
    rw [Memory.writeList, ih (Memory.wf_write _ _ hm) _ hj.2, Memory.read_write _ _ _ _ hm, if_neg hj.1]

theorem Memory.read_fill {m : Memory} (hm : Memory.wf m = true) (v : Byte) (as : List Nat) (j : Nat) :
    Memory.read (Memory.fill m v as) j = if j ∈ as then v else Memory.read m j := by
  induction as generalizing m with
  | nil => simp [Memory.fill]
  | cons a as ih =>
    rw [Memory.fill, ih (Memory.wf_write _ _ hm), Memory.read_write _ _ _ _ hm]
    by_cases h1 : j ∈ as <;> by_cases h2 : j = a <;> simp [h1, h2]

/-- Byte `k` of a stored value is at the `k`-th address, the addresses being distinct. -/
theorem Memory.read_writeList_getElem {m : Memory} (hm : Memory.wf m = true) (as : List Nat) (v k : Nat)
    (hd : as.Nodup) (hk : k < as.length) :
    Memory.read (Memory.writeList m as v) as[k] = BitVec.ofNat 8 (v / 256 ^ k) := by
  induction as generalizing m v k with
  | nil => simp at hk
  | cons a as ih =>
    rw [Memory.writeList]
    rw [List.nodup_cons] at hd
    cases k with
    | zero =>
      rw [List.getElem_cons_zero, Memory.read_writeList_of_notMem (Memory.wf_write _ _ hm) _ _ _ hd.1,
        Memory.read_write _ _ _ _ hm, if_pos rfl]
      simp
    | succ k =>
      rw [List.getElem_cons_succ, ih (Memory.wf_write _ _ hm) _ _ hd.2 (by simpa using hk), Nat.div_div_eq_div_mul, Nat.pow_succ,
        Nat.mul_comm]

theorem Memory.readList_lt (m : Memory) (as : List Nat) : Memory.readList m as < 256 ^ as.length := by
  induction as with
  | nil => simp [Memory.readList]
  | cons a as ih =>
    have := (Memory.read m a).isLt
    simp only [Memory.readList, List.length_cons, Nat.pow_succ]
    omega

/-- A list of bytes reads the same in two stores that agree on it. -/
theorem Memory.readList_congr {m m' : Memory} (as : List Nat) (h : ∀ a ∈ as, Memory.read m a = Memory.read m' a) :
    Memory.readList m as = Memory.readList m' as := by
  induction as with
  | nil => rfl
  | cons a as ih =>
    rw [Memory.readList, Memory.readList, h a (by simp), ih (fun b hb => h b (by simp [hb]))]

/-- A value read back from where it was stored is the value, cut to the bytes stored. -/
theorem Memory.readList_writeList {m : Memory} (hm : Memory.wf m = true) (as : List Nat) (v : Nat) (hd : as.Nodup) :
    Memory.readList (Memory.writeList m as v) as = v % 256 ^ as.length := by
  induction as generalizing m v with
  | nil => simp [Memory.readList, Nat.mod_one]
  | cons a as ih =>
    rw [List.nodup_cons] at hd
    rw [Memory.writeList, Memory.readList, ih (Memory.wf_write _ _ hm) _ hd.2,
      Memory.read_writeList_of_notMem (Memory.wf_write _ _ hm) _ _ _ hd.1, Memory.read_write _ _ _ _ hm, if_pos rfl,
      List.length_cons, Nat.pow_succ, Nat.mul_comm (256 ^ as.length), Nat.mod_mul]
    simp

/-- Two canonical stores with the same bytes are the same store. -/
theorem Memory.eq_of_read {m m' : Memory} (hm : Memory.wf m = true) (hm' : Memory.wf m' = true)
    (h : ∀ a, Memory.read m a = Memory.read m' a) : m = m' := by
  induction m generalizing m' with
  | nil =>
    cases m' with
    | nil => rfl
    | cons c m' =>
      obtain ⟨a, b⟩ := c
      simp only [Memory.wf, Bool.and_eq_true, bne_iff_ne] at hm'
      have := h a
      simp [Memory.read] at this
      exact absurd this.symm hm'.1.1
  | cons c m ih =>
    obtain ⟨a, b⟩ := c
    have hmm := hm
    simp only [Memory.wf, Bool.and_eq_true, bne_iff_ne] at hm
    cases m' with
    | nil =>
      have := h a
      simp [Memory.read] at this
      exact absurd this hm.1.1
    | cons c' m' =>
      obtain ⟨a', b'⟩ := c'
      have hmm' := hm'
      simp only [Memory.wf, Bool.and_eq_true, bne_iff_ne] at hm'
      have haa : a = a' := by
        rcases Nat.lt_trichotomy a a' with hlt | heq | hgt
        · have h1 := h a
          have : a ≠ a' := by omega
          simp [Memory.read, this, Memory.read_of_above (by omega : a ≤ a') hm'.1.2] at h1
          exact absurd h1 hm.1.1
        · exact heq
        · have h1 := h a'
          have : a' ≠ a := by omega
          simp [Memory.read, this, Memory.read_of_above (by omega : a' ≤ a) hm.1.2] at h1
          exact absurd h1.symm hm'.1.1
      subst haa
      have hb : b = b' := by simpa [Memory.read] using h a
      subst hb
      congr 1
      apply ih hm.2 hm'.2
      intro k
      by_cases hk : k = a
      · subst hk
        rw [Memory.read_of_above (Nat.le_refl _) hm.1.2, Memory.read_of_above (Nat.le_refl _) hm'.1.2]
      · simpa [Memory.read, hk] using h k

theorem Memory.fits_write {m : Memory} {n k : Nat} {v : Byte} (hm : Memory.fits m n = true) (hk : k < n) :
    Memory.fits (Memory.write m k v) n = true := by
  simp only [Memory.fits, Bool.and_eq_true] at hm ⊢
  refine ⟨Memory.wf_write _ _ hm.1, ?_⟩
  have hall := hm.2
  clear hm
  induction m with
  | nil => by_cases hv : v = unlistedByte <;> simp [Memory.write, hv, hk]
  | cons c m ih =>
    obtain ⟨a, b⟩ := c
    have hall' := hall
    simp only [List.all_cons, Bool.and_eq_true, decide_eq_true_eq] at hall
    simp only [Memory.write]
    split
    · split
      · exact hall'
      · simp only [List.all_cons, Bool.and_eq_true, decide_eq_true_eq]
        exact ⟨hk, hall⟩
    · split
      · split
        · exact hall.2
        · simp only [List.all_cons, Bool.and_eq_true, decide_eq_true_eq]
          exact ⟨hk, hall.2⟩
      · simp only [List.all_cons, Bool.and_eq_true, decide_eq_true_eq]
        exact ⟨hall.1, ih hall.2⟩

theorem Memory.fits_writeList {m : Memory} {n : Nat} (as : List Nat) (v : Nat) (hm : Memory.fits m n = true)
    (has : ∀ a ∈ as, a < n) : Memory.fits (Memory.writeList m as v) n = true := by
  induction as generalizing m v with
  | nil => exact hm
  | cons a as ih =>
    exact ih _ (Memory.fits_write hm (has a (by simp))) (fun b hb => has b (by simp [hb]))

theorem Memory.fits_fill {m : Memory} {n : Nat} (v : Byte) (as : List Nat) (hm : Memory.fits m n = true)
    (has : ∀ a ∈ as, a < n) : Memory.fits (Memory.fill m v as) n = true := by
  induction as generalizing m with
  | nil => exact hm
  | cons a as ih =>
    exact ih (Memory.fits_write hm (has a (by simp))) (fun b hb => has b (by simp [hb]))

theorem Memory.fits_writeCells {m : Memory} {n : Nat} (cs : List Host.Cell) (hm : Memory.fits m n = true)
    (has : ∀ c ∈ cs, c.1 < n) : Memory.fits (Memory.writeCells m cs) n = true := by
  induction cs generalizing m with
  | nil => exact hm
  | cons c cs ih =>
    obtain ⟨a, b⟩ := c
    exact ih (Memory.fits_write hm (has (a, b) (by simp))) (fun b hb => has b (by simp [hb]))

theorem State.reset_mem_wf : Memory.wf State.reset.mem = true ∧ Memory.wf State.reset.vrf = true
    ∧ Memory.wf State.reset.vrfWritten = true := by decide

end Sys2Proof.Machine
end

