-- ==== Sys2Proof/Laws/Masks.lean ====
section
/-! SUPPORT. Mask destinations: what `mwrite` does, and mask-producing commands as folds. -/

namespace Sys2Proof.Reference

open Sys2Proof.Machine

/-- `s` in the middle of a mask-producing command. -/
def insideMask (s : State) (m : MaskView) (k : Nat) (bad : Bool) : State :=
  { inside s ⟨m.vrf, m.marks, s.vxsat, s.mem, s.trace⟩ k bad with touched := m.touched, maskBits := m.written }

theorem insideMask_pin (s : State) (m : MaskView) (k : Nat) (bad : Bool) (j : Nat) :
    (insideMask s m k bad).pin j = insideMask s m j bad := rfl

theorem inside_eq_insideMask (s : State) : inside s (view s) s.vstart s.readUnwritten
    = insideMask s (maskView s) s.vstart s.readUnwritten := rfl

theorem vread_insideMask {s : State} (m : MaskView) (k : Nat) (bad : Bool) (w reg ei : Nat)
    (h : reg * s.cfg.vlenb + ei * (w / 8) + w / 8 ≤ s.vrfSize) :
    ∃ bad', vread w reg ei (insideMask s m k bad) = .ok (elem s.cfg m.vrf w reg ei, insideMask s m k bad') := by
  have h' : (insideMask s m k bad).elemOffset reg 0 ei w 0 + w / 8 ≤ (insideMask s m k bad).vrfSize := by
    simp only [State.elemOffset, Nat.zero_mul, Nat.add_zero]
    exact h
  rw [vread, vreadField, vreadAt, if_pos h']
  simp only [State.elemOffset, Nat.zero_mul, Nat.add_zero]
  exact ⟨_, rfl⟩

theorem maskbit_insideMask {s : State} (m : MaskView) (k : Nat) (bad : Bool) (ei : Nat) (h : ei / 8 < s.vrfSize) :
    ∃ bad', maskbit ei (insideMask s m k bad) = .ok (maskBit s.cfg m.vrf 0 ei, insideMask s m k bad') := by
  have h' : (insideMask s m k bad).maskOffset 0 ei < (insideMask s m k bad).vrfSize := by
    simp only [State.maskOffset, Nat.zero_mul, Nat.zero_add]
    exact h
  rw [maskbit, if_pos h']
  exact ⟨_, rfl⟩

/-- Unmasked, or the element's bit of `v0`, in the middle of a mask-producing command. -/
def activeMask (s : State) (vm : Bool) (m : MaskView) (ei : Nat) : Bool := vm || maskBit s.cfg m.vrf 0 ei

theorem active_insideMask {s : State} {ei : Nat} (ht : s.typingOk = true) (hei : ei < s.vlmax) (vm : Bool) (m : MaskView)
    (k : Nat) (bad : Bool) :
    ∃ bad', activeElement vm ei (insideMask s m k bad) = .ok (activeMask s vm m ei, insideMask s m k bad') := by
  cases vm with
  | true => exact ⟨bad, rfl⟩
  | false =>
    have h := State.mask_inside (reg := 0) ht (by omega) hei
    exact maskbit_insideMask m k bad ei (by simpa [State.maskOffset] using h)

theorem operand1_insideMask {s : State} (m : MaskView) (k : Nat) (bad : Bool) (w : Nat) (src : Src) (ei : Nat)
    (h : srcInside s w ei src) :
    ∃ bad', operand1 w src ei (insideMask s m k bad)
      = .ok (op1 s w src ⟨m.vrf, m.marks, s.vxsat, s.mem, s.trace⟩ ei, insideMask s m k bad') := by
  cases src with
  | vec r => exact vread_insideMask m k bad w r ei h
  | scalar r => exact ⟨bad, rfl⟩
  | simm i => exact ⟨bad, rfl⟩
  | uimm i => exact ⟨bad, rfl⟩

/-- What `mwrite` answers: inside the file, the mask view with the bit written (40_element_engine R405, R412). -/
theorem mwrite_insideMask {s : State} (m : MaskView) (k : Nat) (bad : Bool) (vd ei : Nat) (b : Bool)
    (h : s.maskOffset vd ei < s.vrfSize) :
    mwrite vd ei b (insideMask s m k bad) = .ok (insideMask s (m.put s vd ei b) k bad) := by
  have h' : (insideMask s m k bad).maskOffset vd ei < (insideMask s m k bad).vrfSize := h
  rw [mwrite, if_pos h']
  have hz : (insideMask s m k bad).zeroesByte ei = zeroes s m ei := by
    simp only [State.zeroesByte, zeroes, insideMask, inside]
    cases s.cfg.maskDestPolicy <;> simp [beq_eq_decide]
  have ht : ∀ l : List Nat, l.contains (ei / 8) = decide (ei / 8 ∈ l) := fun l => by simp
  simp only [State.putMaskBit, hz, MaskView.put, ht, decide_eq_true_eq]
  rfl

theorem read_write_bit {m : Memory} (hm : Memory.wf m = true) (a k : Nat) (b : Bool) (a' k' : Nat) (hk : k < 8) (hk' : k' < 8) :
    (Memory.read (Memory.write m a (setBit (Memory.read m a) k b)) a').getLsbD k'
      = if a' = a ∧ k' = k then b else (Memory.read m a').getLsbD k' := by
  rw [Memory.read_write _ _ _ _ hm]
  by_cases ha : a' = a
  · subst ha
    have : ∀ (v : Byte) (k k' : Fin 8) (b : Bool),
        (setBit v k b).getLsbD k' = if k' = k then b else v.getLsbD k' := by
      intro v k k' b
      have h1 : ∀ k k' : Fin 8, (bitMask k).getLsbD k' = decide (k' = k) := by decide
      have h2 : ∀ k k' : Fin 8, (~~~ bitMask k).getLsbD k' = !decide (k' = k) := by decide
      unfold setBit
      cases b
      · rw [if_neg (by simp), BitVec.getLsbD_and, h2]
        by_cases h : k' = k <;> simp [h]
      · rw [if_pos rfl, BitVec.getLsbD_or, h1]
        by_cases h : k' = k <;> simp [h]
    have h3 := this (Memory.read m a') ⟨k, hk⟩ ⟨k', hk'⟩ b
    simp only [Fin.mk.injEq] at h3
    simp [h3]
  · simp [ha]

/-- The free bits of `agnostic` change no bit outside the drawn ones, and no other field (40_element_engine R405). -/
theorem drawMaskBits_spec {s : State} {vd : Nat} (l : List Nat) (hw : Memory.wf s.vrf = true) :
    ∃ vrf draws, s.drawMaskBits vd l = { s with vrf := vrf, freeDraws := draws } ∧ Memory.wf vrf = true ∧
      ∀ a k, k < 8 → (∀ ei ∈ l, a = s.maskOffset vd ei → k = ei % 8 → ei ∈ s.maskBits) →
        (Memory.read vrf a).getLsbD k = (Memory.read s.vrf a).getLsbD k := by
  induction l generalizing s with
  | nil => exact ⟨s.vrf, s.freeDraws, rfl, hw, fun _ _ _ _ => rfl⟩
  | cons ei l ih =>
    rw [State.drawMaskBits]
    by_cases hc : s.maskBits.contains ei = true
    · rw [if_pos hc]
      obtain ⟨vrf, draws, h1, h2, h3⟩ := ih hw
      exact ⟨vrf, draws, h1, h2, fun a k hk h => h3 a k hk (fun e he => h e (by simp [he]))⟩
    · rw [if_neg hc]
      obtain ⟨vrf, draws, h1, h2, h3⟩ := ih (s := { s with
          vrf := Memory.write s.vrf (s.maskOffset vd ei)
            (setBit (Memory.read s.vrf (s.maskOffset vd ei)) (ei % 8) (Config.freeMaskBit s.freeDraws))
          freeDraws := s.freeDraws + 1 }) (Memory.wf_write _ _ hw)
      refine ⟨vrf, draws, h1, h2, fun a k hk h => ?_⟩
      rw [h3 a k hk (fun e he => h e (by simp [he])), read_write_bit hw _ _ _ _ _ (Nat.mod_lt _ (by omega)) hk, if_neg]
      rintro ⟨ha, hk'⟩
      have := h ei (by simp) ha hk'
      simp [this] at hc

/-- The end of a mask-producing command (40_element_engine R405). -/
theorem settleMask_insideMask {s : State} (m : MaskView) (k : Nat) (bad : Bool) (vd : Nat) (hw : Memory.wf m.vrf = true) :
    ∃ vrf draws, (insideMask s m k bad).settleMask vd = { insideMask s m k bad with vrf := vrf, freeDraws := draws }
      ∧ settles s vd m vrf := by
  by_cases hp : s.cfg.maskDestPolicy = .agnostic
  · obtain ⟨vrf, draws, h1, -, h3⟩ := drawMaskBits_spec (s := insideMask s m k bad) (vd := vd)
      (m.touched.flatMap (fun b => List.range' (8 * b) 8)) hw
    refine ⟨vrf, draws, ?_, ?_⟩
    · rw [← h1, State.settleMask]
      simp only [insideMask, inside, hp]
    · intro a j hj h
      refine h3 a j hj (fun ei hei ha hj' => ?_)
      simp only [List.mem_flatMap, List.mem_range'_1] at hei
      obtain ⟨b, hb, h4, h5⟩ := hei
      have := h hp b hb (by rw [ha]; simp only [State.maskOffset, insideMask, inside]; congr 1; omega)
      have he : 8 * b + j = ei := by omega
      rw [← he]; exact this
  · refine ⟨m.vrf, s.freeDraws, ?_, fun _ _ _ _ => rfl⟩
    rw [State.settleMask]
    simp only [insideMask, inside]
    cases hq : s.cfg.maskDestPolicy with
    | firstTouch => rfl
    | byteStart => rfl
    | agnostic => exact absurd hq hp

theorem MaskView.wf_put {s : State} {m : MaskView} (vd ei : Nat) (b : Bool) (h : Memory.wf m.vrf = true) :
    Memory.wf (m.put s vd ei b).vrf = true := Memory.wf_write _ _ h

/-- A mask-producing command completes with the fold of its bodies, then settles. -/
theorem mask_completes {s : State} {shapes : State → Bool} {vd : Nat} {act : Nat → State → Run (Bool × State)}
    {body : Nat → State → Run State} {actV : MaskView → Nat → Bool} {bit : MaskView → Nat → Bool}
    (hw : Memory.wf s.vrf = true) (ht : s.typingOk = true) (hs : shapes s = true)
    (hact : ∀ ei m k bad, ei < s.vlmax → ∃ bad', act ei (insideMask s m k bad) = .ok (actV m ei, insideMask s m k bad'))
    (hbody : ∀ ei m k bad, ei < s.vlmax →
      ∃ bad', body ei (insideMask s m k bad) = .ok (insideMask s (m.put s vd ei (bit m ei)) k bad')) :
    CompletesMask s (runCommand shapes (maskLoop act vd body) s) vd
      (runOver actV (fun ei m => m.put s vd ei (bit m ei)) (elements s) (maskView s)) := by
  obtain ⟨k, bad, h⟩ := elementSteps_fold (rep := insideMask s) (insideMask_pin s) (P := fun m => Memory.wf m.vrf = true)
    (n := s.vl - s.vstart) (lo := s.vstart) (actV := actV) (bodyV := fun ei m => m.put s vd ei (bit m ei))
    (v := maskView s) (fun ei m bad h1 h2 => hact ei m ei bad (lt_vlmax_of_element ht h1 h2).2)
    (fun ei m bad h1 h2 hm _ => ⟨MaskView.wf_put _ _ _ hm, hbody ei m ei bad (lt_vlmax_of_element ht h1 h2).2⟩)
    s.vstart s.readUnwritten hw
  have hwf : Memory.wf (runOver actV (fun ei m => m.put s vd ei (bit m ei)) (elements s) (maskView s)).vrf = true :=
    runOver_induction (P := fun m : MaskView => Memory.wf m.vrf = true) (fun ei _ m hm _ => MaskView.wf_put _ _ _ hm) hw
  obtain ⟨vrf, draws, h1, h2⟩ := settleMask_insideMask (s := s) _ k bad vd hwf
  refine ⟨vrf, bad, draws, h2, ?_⟩
  have h3 : maskLoop act vd body s.clearHidden = .ok { insideMask s
      (runOver actV (fun ei m => m.put s vd ei (bit m ei)) (elements s) (maskView s)) k bad with
      vrf := vrf, freeDraws := draws } := by
    have h' : elementLoop act body s.clearHidden = .ok (insideMask s
        (runOver actV (fun ei m => m.put s vd ei (bit m ei)) (elements s) (maskView s)) k bad) := by
      rw [clearHidden_eq_inside]; exact h
    simp only [maskLoop, h', bind, Except.bind]
    rw [h1]
  rw [runCommand, if_pos ht, if_pos hs, h3]
  rfl

/-- The bit a compare writes (49_compare_mask R1101). -/
def compareBit (s : State) (w vs2 : Nat) (src : Src) (p : BitVec w → BitVec w → Bool) (m : MaskView) (ei : Nat) : Bool :=
  p (elem s.cfg m.vrf w vs2 ei) (op1 s w src ⟨m.vrf, m.marks, s.vxsat, s.mem, s.trace⟩ ei)

theorem compareBody_insideMask {s : State} {vd vs2 ei : Nat} {src : Src} {p : BitVec s.sew → BitVec s.sew → Bool}
    (ht : s.typingOk = true) (hs : maskShapes vs2 src s = true) (hvd : vd < 32) (m : MaskView) (k : Nat) (bad : Bool)
    (hm : ei < s.vlmax) :
    ∃ bad', compareBody s.sew vd vs2 src p ei (insideMask s m k bad)
      = .ok (insideMask s (m.put s vd ei (compareBit s s.sew vs2 src p m ei)) k bad') := by
  simp only [maskShapes, Bool.and_eq_true] at hs
  obtain ⟨b1, e1⟩ := vread_insideMask m k bad s.sew vs2 ei (State.narrow_inside ht hs.1 hm)
  obtain ⟨b2, e2⟩ := operand1_insideMask m k b1 s.sew src ei (srcInside_of_ok ht hs.2 hm)
  refine ⟨b2, ?_⟩
  simp only [compareBody, e1, e2, bind, Except.bind]
  rw [mwrite_insideMask (h := State.mask_inside ht hvd hm)]
  rfl

theorem compare_completes {s : State} {vm : Bool} {vd vs2 : Nat} {src : Src} (p : (w : Nat) → BitVec w → BitVec w → Bool)
    (hw : Memory.wf s.vrf = true) (ht : s.typingOk = true) (hs : maskShapes vs2 src s = true) (hvd : vd < 32) :
    CompletesMask s (compare vm vd vs2 src p s) vd
      (runOver (activeMask s vm) (fun ei m => m.put s vd ei (compareBit s s.sew vs2 src (p s.sew) m ei)) (elements s)
        (maskView s)) :=
  mask_completes hw ht hs (fun _ m k bad hm => active_insideMask ht hm vm m k bad)
    (fun _ m k bad hm => compareBody_insideMask ht hs hvd m k bad hm)

theorem carryOut_completes {s : State} {vd vs2 : Nat} {src : Src} (p : (w : Nat) → BitVec w → BitVec w → Bool → Bool)
    (hw : Memory.wf s.vrf = true) (ht : s.typingOk = true) (hs : maskShapes vs2 src s = true) (hvd : vd < 32) :
    CompletesMask s (carryOut vd vs2 src p s) vd
      (runOver (fun _ _ => true)
        (fun ei m => m.put s vd ei (compareBit s s.sew vs2 src (fun b a => p s.sew b a false) m ei)) (elements s)
        (maskView s)) :=
  mask_completes hw ht hs (fun _ _ _ bad _ => ⟨bad, rfl⟩)
    (fun _ m k bad hm => compareBody_insideMask ht hs hvd m k bad hm)

theorem carryOutIn_completes {s : State} {vd vs2 : Nat} {src : Src} (p : (w : Nat) → BitVec w → BitVec w → Bool → Bool)
    (hw : Memory.wf s.vrf = true) (ht : s.typingOk = true) (hs : maskShapes vs2 src s = true) (hvd : vd < 32) :
    CompletesMask s (carryOutIn vd vs2 src p s) vd
      (runOver (fun _ _ => true)
        (fun ei m => m.put s vd ei
          (compareBit s s.sew vs2 src (fun b a => p s.sew b a (maskBit s.cfg m.vrf 0 ei)) m ei)) (elements s)
        (maskView s)) := by
  have hs' := hs
  simp only [maskShapes, Bool.and_eq_true] at hs
  refine mask_completes hw ht hs' (fun _ _ _ bad _ => ⟨bad, rfl⟩) (fun ei m k bad hm => ?_)
  obtain ⟨b1, e1⟩ := vread_insideMask m k bad s.sew vs2 ei (State.narrow_inside ht hs.1 hm)
  obtain ⟨b2, e2⟩ := operand1_insideMask m k b1 s.sew src ei (srcInside_of_ok ht hs.2 hm)
  obtain ⟨b3, e3⟩ := maskbit_insideMask m k b2 ei (by
    simpa [State.maskOffset] using State.mask_inside (reg := 0) ht (by omega) hm)
  refine ⟨b3, ?_⟩
  simp only [compareCarryBody, e1, e2, e3, bind, Except.bind]
  rw [mwrite_insideMask (h := State.mask_inside ht hvd hm)]
  rfl

end Sys2Proof.Reference
end

