-- ==== Sys2Proof/Laws/Within.lean ====
section
/-! SUPPORT. What a command can do at all, said once: the states it passes through (`Within`), and that each class of commands
stays among them and never leaves the register file. Every whole-machine rule follows from it by induction. -/

namespace Sys2Proof.Reference

open Sys2Proof.Machine

/-- The kinds of change a command can make beyond register writes: `vxsat`, a mask destination, calls of the memory port, stores,
a truncation of `vl`. -/
structure Effects where
  sat : Bool := false
  mask : Option Nat := none
  call : Bool := false
  store : Bool := false
  cut : Bool := false

/-- Above every cursor value: an element index or a byte index. -/
def cursorBound (s : State) : Nat := max s.vl (8 * s.cfg.vlenb)

/-- The states a command started at `s0` passes through. -/
inductive Within (e : Effects) (s0 : State) : State → Prop
  | start : Within e s0 s0.clearHidden
  | pin {s : State} (k : Nat) : Within e s0 s → s0.vstart ≤ k → k < cursorBound s0 → Within e s0 (s.pin k)
  | noteRead {s : State} (offs : List Nat) (bits : Byte) : Within e s0 s → Within e s0 (s.noteRead offs bits)
  | putBytes {s : State} (off n v : Nat) : Within e s0 s → off + n ≤ s0.vrfSize →
      Within e s0 (s.putBytes (byteOffsets off n) v)
  | orSat {s : State} (b : Bool) : Within e s0 s → e.sat = true → Within e s0 (s.orSat b)
  | putMaskBit {s : State} (vd ei : Nat) (b : Bool) : Within e s0 s → e.mask = some vd → s0.maskOffset vd ei < s0.vrfSize →
      Within e s0 (s.putMaskBit vd ei b)
  | settle {s : State} (vd : Nat) : Within e s0 s → e.mask = some vd → Within e s0 (s.settleMask vd)
  | takeAnswer {s : State} : Within e s0 s → e.call = true → Within e s0 s.takeAnswer
  | record {s : State} (ev : MemEvent) : Within e s0 s → e.call = true → Within e s0 (s.record ev)
  | write {s : State} (addr n v : Nat) : Within e s0 s → e.store = true →
      Within e s0 { s with mem := Memory.writeList s.mem (s.byteAddrs addr n) v }
  | pend {s : State} (info : FaultInfo) : Within e s0 s → e.cut = true → info.addr < s0.xmod →
      Within e s0 { s with ffPending := some info }

/-- What no command changes. -/
structure Fixed (s0 s : State) : Prop where
  cfg : s.cfg = s0.cfg
  vsew : s.vsew = s0.vsew
  vlmul : s.vlmul = s0.vlmul
  vta : s.vta = s0.vta
  vma : s.vma = s0.vma
  vill : s.vill = s0.vill
  vl : s.vl = s0.vl
  vxrm : s.vxrm = s0.vxrm
  x : s.x = s0.x
  pc : s.pc = s0.pc
  launch : s.launch = s0.launch
  program : s.program = s0.program
  vsOn : s.vsOn = s0.vsOn
  xepc : s.xepc = s0.xepc
  xcause : s.xcause = s0.xcause
  xtval : s.xtval = s0.xtval
  xtvec : s.xtvec = s0.xtvec
  result : s.result = s0.result
  inbox : s.inbox = s0.inbox

theorem drawMaskBits_fixed (s : State) (vd : Nat) (l : List Nat) :
    ∃ vrf draws, s.drawMaskBits vd l = { s with vrf := vrf, freeDraws := draws } := by
  induction l generalizing s with
  | nil => exact ⟨s.vrf, s.freeDraws, rfl⟩
  | cons ei l ih =>
    rw [State.drawMaskBits]
    split
    · exact ih s
    · obtain ⟨vrf, draws, h⟩ := ih { s with
        vrf := Memory.write s.vrf (s.maskOffset vd ei)
          (setBit (Memory.read s.vrf (s.maskOffset vd ei)) (ei % 8) (Config.freeMaskBit s.freeDraws))
        freeDraws := s.freeDraws + 1 }
      exact ⟨vrf, draws, h⟩

theorem settleMask_fixed (s : State) (vd : Nat) : ∃ vrf draws, s.settleMask vd = { s with vrf := vrf, freeDraws := draws } := by
  unfold State.settleMask
  split
  · exact ⟨s.vrf, s.freeDraws, rfl⟩
  · exact ⟨s.vrf, s.freeDraws, rfl⟩
  · exact drawMaskBits_fixed _ _ _

theorem Within.fixed {e : Effects} {s0 s : State} (h : Within e s0 s) : Fixed s0 s := by
  induction h with
  | start => constructor <;> rfl
  | pin _ _ _ _ ih => exact ⟨ih.1, ih.2, ih.3, ih.4, ih.5, ih.6, ih.7, ih.8, ih.9, ih.10, ih.11, ih.12, ih.13, ih.14, ih.15, ih.16, ih.17, ih.18, ih.19⟩
  | noteRead _ _ _ ih => exact ⟨ih.1, ih.2, ih.3, ih.4, ih.5, ih.6, ih.7, ih.8, ih.9, ih.10, ih.11, ih.12, ih.13, ih.14, ih.15, ih.16, ih.17, ih.18, ih.19⟩
  | putBytes _ _ _ _ _ ih => exact ⟨ih.1, ih.2, ih.3, ih.4, ih.5, ih.6, ih.7, ih.8, ih.9, ih.10, ih.11, ih.12, ih.13, ih.14, ih.15, ih.16, ih.17, ih.18, ih.19⟩
  | orSat _ _ _ ih => exact ⟨ih.1, ih.2, ih.3, ih.4, ih.5, ih.6, ih.7, ih.8, ih.9, ih.10, ih.11, ih.12, ih.13, ih.14, ih.15, ih.16, ih.17, ih.18, ih.19⟩
  | putMaskBit _ _ _ _ _ _ ih => exact ⟨ih.1, ih.2, ih.3, ih.4, ih.5, ih.6, ih.7, ih.8, ih.9, ih.10, ih.11, ih.12, ih.13, ih.14, ih.15, ih.16, ih.17, ih.18, ih.19⟩
  | @settle s vd _ _ ih =>
    obtain ⟨vrf, draws, h⟩ := settleMask_fixed s vd
    rw [h]
    exact ⟨ih.1, ih.2, ih.3, ih.4, ih.5, ih.6, ih.7, ih.8, ih.9, ih.10, ih.11, ih.12, ih.13, ih.14, ih.15, ih.16, ih.17, ih.18, ih.19⟩
  | takeAnswer _ _ ih => exact ⟨ih.1, ih.2, ih.3, ih.4, ih.5, ih.6, ih.7, ih.8, ih.9, ih.10, ih.11, ih.12, ih.13, ih.14, ih.15, ih.16, ih.17, ih.18, ih.19⟩
  | record _ _ _ ih => exact ⟨ih.1, ih.2, ih.3, ih.4, ih.5, ih.6, ih.7, ih.8, ih.9, ih.10, ih.11, ih.12, ih.13, ih.14, ih.15, ih.16, ih.17, ih.18, ih.19⟩
  | write _ _ _ _ _ ih => exact ⟨ih.1, ih.2, ih.3, ih.4, ih.5, ih.6, ih.7, ih.8, ih.9, ih.10, ih.11, ih.12, ih.13, ih.14, ih.15, ih.16, ih.17, ih.18, ih.19⟩
  | pend _ _ _ _ ih => exact ⟨ih.1, ih.2, ih.3, ih.4, ih.5, ih.6, ih.7, ih.8, ih.9, ih.10, ih.11, ih.12, ih.13, ih.14, ih.15, ih.16, ih.17, ih.18, ih.19⟩

theorem Fixed.vrfSize {s0 s : State} (h : Fixed s0 s) : s.vrfSize = s0.vrfSize := by simp [State.vrfSize, h.cfg]
theorem Fixed.sewLog {s0 s : State} (h : Fixed s0 s) : s.sewLog = s0.sewLog := by simp [State.sewLog, h.vsew]
theorem Fixed.sew {s0 s : State} (h : Fixed s0 s) : s.sew = s0.sew := by simp [State.sew, h.sewLog]
theorem Fixed.lmulLog {s0 s : State} (h : Fixed s0 s) : s.lmulLog = s0.lmulLog := by simp [State.lmulLog, h.vlmul]
theorem Fixed.emulLog {s0 s : State} (h : Fixed s0 s) (e : Nat) : s.emulLog e = s0.emulLog e := by
  simp [State.emulLog, h.sewLog, h.lmulLog]
theorem Fixed.xmod {s0 s : State} (h : Fixed s0 s) : s.xmod = s0.xmod := by simp [State.xmod, h.cfg]
theorem Fixed.elemOffset {s0 s : State} (h : Fixed s0 s) (reg fi ei eew : Nat) (emul : Int) :
    s.elemOffset reg fi ei eew emul = s0.elemOffset reg fi ei eew emul := by simp [State.elemOffset, h.cfg]
theorem Fixed.maskOffset {s0 s : State} (h : Fixed s0 s) (reg ei : Nat) : s.maskOffset reg ei = s0.maskOffset reg ei := by
  simp [State.maskOffset, h.cfg]

/-- A pending fault's address is a memory address. -/
theorem Within.pending {e : Effects} {s0 s : State} (h : Within e s0 s) :
    ∀ info, s.ffPending = some info → info.addr < s0.xmod := by
  induction h with
  | start => intro info hi; cases hi
  | pend info _ _ hx _ => intro info' hi; cases hi; exact hx
  | @settle s vd _ _ ih =>
    obtain ⟨vrf, draws, h⟩ := settleMask_fixed s vd
    rw [h]; exact ih
  | pin _ _ _ _ ih => exact ih
  | noteRead _ _ _ ih => exact ih
  | putBytes _ _ _ _ _ ih => exact ih
  | orSat _ _ _ ih => exact ih
  | putMaskBit _ _ _ _ _ _ ih => exact ih
  | takeAnswer _ _ ih => exact ih
  | record _ _ _ ih => exact ih
  | write _ _ _ _ _ ih => exact ih

theorem addr_lt (s : State) (z : Int) : s.addr z < s.xmod := by
  have hm : (0 : Int) < (s.xmod : Int) := by
    have : 0 < s.xmod := by unfold State.xmod; positivity
    exact_mod_cast this
  have := Int.emod_lt_of_pos z hm
  have := Int.emod_nonneg z (show (s.xmod : Int) ≠ 0 by omega)
  unfold State.addr
  omega

/-- The end of a part of a run that the class laws allow: it stays `Within`; a trap is a memory fault of the command's own
direction at the cursor; a truncation is one of `vl` to the cursor; there is no model fault. `Q` speaks of the cursor. -/
def Good {α : Type} (e : Effects) (s0 : State) (st : α → State) (Q : State → Prop) : Run α → Prop
  | .ok a => Within e s0 (st a) ∧ Q (st a)
  | .error (.trap t s) => Within e s0 s ∧ s0.vstart ≤ s.vstart ∧ s.vstart < cursorBound s0 ∧ e.call = true ∧
      ∃ info : FaultInfo, t = .memFault e.store info ∧ info.addr < s0.xmod
  | .error (.finished s) => e.cut = true ∧ ∃ t k, Within e s0 t ∧ s0.vstart ≤ k ∧ 0 < k ∧ k < s0.vl ∧
      s = { t with vl := k, ffPending := none }
  | .error (.fault _) => False

theorem Good.bind {α β : Type} {e : Effects} {s0 : State} {st : α → State} {st' : β → State} {Q Q' : State → Prop}
    {r : Run α} {f : α → Run β} (h : Good e s0 st Q r)
    (hf : ∀ a, Within e s0 (st a) → Q (st a) → Good e s0 st' Q' (f a)) : Good e s0 st' Q' (r >>= f) := by
  cases r with
  | ok a => exact hf a h.1 h.2
  | error x => cases x <;> exact h

theorem Good.weaken {α : Type} {e : Effects} {s0 : State} {st : α → State} {Q Q' : State → Prop} {r : Run α}
    (h : Good e s0 st Q r) (hq : ∀ s, Q s → Q' s) : Good e s0 st Q' r := by
  cases r with
  | ok a => exact ⟨h.1, hq _ h.2⟩
  | error x => cases x <;> exact h

/-- The cursor is at `k`. -/
def At (k : Nat) (s : State) : Prop := s.vstart = k

variable {e : Effects} {s0 : State}

theorem vreadAt_good {s : State} {w off k : Nat} (h : Within e s0 s) (hk : At k s) (hr : off + w / 8 ≤ s0.vrfSize) :
    Good e s0 Prod.snd (At k) (vreadAt w off s) := by
  rw [vreadAt, if_pos (by rw [h.fixed.vrfSize]; exact hr)]
  exact ⟨h.noteRead _ _, hk⟩

theorem vwriteAt_good {s : State} {w off k : Nat} {v : BitVec w} (h : Within e s0 s) (hk : At k s)
    (hr : off + w / 8 ≤ s0.vrfSize) : Good e s0 id (At k) (vwriteAt w off v s) := by
  rw [vwriteAt, if_pos (by rw [h.fixed.vrfSize]; exact hr)]
  exact ⟨h.putBytes _ _ _ hr, hk⟩

theorem vread_good {s : State} {w reg ei k : Nat} (h : Within e s0 s) (hk : At k s)
    (hr : reg * s0.cfg.vlenb + ei * (w / 8) + w / 8 ≤ s0.vrfSize) : Good e s0 Prod.snd (At k) (vread w reg ei s) :=
  vreadAt_good h hk (by rw [h.fixed.elemOffset]; simpa [State.elemOffset] using hr)

theorem vwrite_good {s : State} {w reg ei k : Nat} {v : BitVec w} (h : Within e s0 s) (hk : At k s)
    (hr : reg * s0.cfg.vlenb + ei * (w / 8) + w / 8 ≤ s0.vrfSize) : Good e s0 id (At k) (vwrite w reg ei v s) :=
  vwriteAt_good h hk (by rw [h.fixed.elemOffset]; simpa [State.elemOffset] using hr)

theorem maskbit_good {s : State} {ei k : Nat} (h : Within e s0 s) (hk : At k s) (hr : s0.maskOffset 0 ei < s0.vrfSize) :
    Good e s0 Prod.snd (At k) (maskbit ei s) := by
  rw [maskbit, if_pos (by rw [h.fixed.vrfSize, h.fixed.maskOffset]; exact hr)]
  exact ⟨h.noteRead _ _, hk⟩

theorem activeElement_good {s : State} {ei k : Nat} {vm : Bool} (h : Within e s0 s) (hk : At k s)
    (hr : s0.maskOffset 0 ei < s0.vrfSize) : Good e s0 Prod.snd (At k) (activeElement vm ei s) := by
  cases vm with
  | true => exact ⟨h, hk⟩
  | false => exact maskbit_good h hk hr

theorem operand1_good {s : State} {w ei k : Nat} {src : Src} (h : Within e s0 s) (hk : At k s)
    (hr : srcInside s0 w ei src) : Good e s0 Prod.snd (At k) (operand1 w src ei s) := by
  cases src with
  | vec r => exact vread_good h hk hr
  | scalar r => exact ⟨h, hk⟩
  | simm i => exact ⟨h, hk⟩
  | uimm i => exact ⟨h, hk⟩

theorem indexOperand_good {s : State} {w ei k : Nat} {src : Src} (h : Within e s0 s) (hk : At k s)
    (hr : srcInside s0 w ei src) : Good e s0 Prod.snd (At k) (indexOperand w src ei s) := by
  cases src with
  | vec r => exact (vread_good h hk hr).bind (fun a h hk => ⟨h, hk⟩)
  | scalar r => exact ⟨h, hk⟩
  | simm i => exact ⟨h, hk⟩
  | uimm i => exact ⟨h, hk⟩

theorem mwrite_good {s : State} {vd ei k : Nat} {b : Bool} (h : Within e s0 s) (hk : At k s) (he : e.mask = some vd)
    (hr : s0.maskOffset vd ei < s0.vrfSize) : Good e s0 id (At k) (mwrite vd ei b s) := by
  rw [mwrite, if_pos (by rw [h.fixed.vrfSize, h.fixed.maskOffset]; exact hr)]
  exact ⟨h.putMaskBit _ _ _ he hr, hk⟩

theorem memRead_good {s : State} {n k : Nat} {z : Int} (h : Within e s0 s) (hk : At k s) (hc : e.call = true)
    (hs : e.store = false) (h1 : s0.vstart ≤ k) (h2 : k < cursorBound s0) :
    Good e s0 Prod.snd (At k) (memRead (s.addr z) n s) := by
  unfold memRead memGet
  cases hf : s.nextAnswer.fault with
  | none => exact ⟨(h.takeAnswer hc).record _ hc, hk⟩
  | some kind =>
    refine ⟨(h.takeAnswer hc).record _ hc, ?_, ?_, hc, ⟨kind, s.addr z⟩, by rw [hs], ?_⟩
    · show s0.vstart ≤ s.vstart; rw [show s.vstart = k from hk]; exact h1
    · show s.vstart < _; rw [show s.vstart = k from hk]; exact h2
    · have := addr_lt s z; rw [h.fixed.xmod] at this; exact this

theorem memWrite_good {s : State} {n k v : Nat} {z : Int} (h : Within e s0 s) (hk : At k s) (hc : e.call = true)
    (hs : e.store = true) (h1 : s0.vstart ≤ k) (h2 : k < cursorBound s0) :
    Good e s0 id (At k) (memWrite (s.addr z) n v s) := by
  unfold memWrite
  cases hf : s.nextAnswer.fault with
  | none => exact ⟨((h.takeAnswer hc).write _ _ _ hs).record _ hc, hk⟩
  | some kind =>
    refine ⟨(h.takeAnswer hc).record _ hc, ?_, ?_, hc, ⟨kind, s.addr z⟩, by rw [hs], ?_⟩
    · show s0.vstart ≤ s.vstart; rw [show s.vstart = k from hk]; exact h1
    · show s.vstart < _; rw [show s.vstart = k from hk]; exact h2
    · have := addr_lt s z; rw [h.fixed.xmod] at this; exact this

/-- The element loop stays good if its bodies do. -/
theorem elementSteps_good {act : Nat → State → Run (Bool × State)} {body : Nat → State → Run State} {n lo : Nat}
    (hlo : s0.vstart ≤ lo) (hn : 0 < n → lo + n ≤ cursorBound s0)
    (hact : ∀ ei s, lo ≤ ei → ei < lo + n → Within e s0 s → At ei s → Good e s0 Prod.snd (At ei) (act ei s))
    (hbody : ∀ ei s, lo ≤ ei → ei < lo + n → Within e s0 s → At ei s → Good e s0 id (At ei) (body ei s))
    {s : State} (h : Within e s0 s) : Good e s0 id (fun _ => True) (elementSteps act body n lo s) := by
  induction n generalizing lo s with
  | zero => exact ⟨h, trivial⟩
  | succ n ih =>
    have hn' := hn (by omega)
    have hp : Within e s0 (s.pin lo) := h.pin lo hlo (by omega)
    refine (hact lo _ (Nat.le_refl _) (by omega) hp rfl).bind (fun a ha hk => ?_)
    have hrest : ∀ t, Within e s0 t → Good e s0 id (fun _ => True) (elementSteps act body n (lo + 1) t) := fun t ht =>
      ih (by omega) (fun _ => by omega) (fun ei s h1 h2 => hact ei s (by omega) (by omega))
        (fun ei s h1 h2 => hbody ei s (by omega) (by omega)) ht
    by_cases hb : a.1 = true
    · simp only [hb, if_true]
      exact (hbody lo _ (Nat.le_refl _) (by omega) ha hk).bind (fun t ht _ => hrest t ht)
    · simp only [hb]
      exact hrest _ ha

theorem foldSteps_good {α : Type} {vm : Bool} {body : Nat → α → State → Run (α × State)} {n lo : Nat}
    (hlo : s0.vstart ≤ lo) (hn : 0 < n → lo + n ≤ cursorBound s0)
    (hm : ∀ ei, lo ≤ ei → ei < lo + n → s0.maskOffset 0 ei < s0.vrfSize)
    (hbody : ∀ ei acc s, lo ≤ ei → ei < lo + n → Within e s0 s → At ei s → Good e s0 Prod.snd (At ei) (body ei acc s))
    (acc : α) {s : State} (h : Within e s0 s) : Good e s0 Prod.snd (fun _ => True) (foldSteps vm body n lo acc s) := by
  induction n generalizing lo s acc with
  | zero => exact ⟨h, trivial⟩
  | succ n ih =>
    have hn' := hn (by omega)
    have hp : Within e s0 (s.pin lo) := h.pin lo hlo (by omega)
    refine (activeElement_good hp rfl (hm lo (Nat.le_refl _) (by omega))).bind (fun a ha hk => ?_)
    have hrest : ∀ (acc : α) t, Within e s0 t → Good e s0 Prod.snd (fun _ => True) (foldSteps vm body n (lo + 1) acc t) :=
      fun acc t ht => ih (by omega) (fun _ => by omega) (fun ei h1 h2 => hm ei (by omega) (by omega))
        (fun ei acc s h1 h2 => hbody ei acc s (by omega) (by omega)) acc ht
    by_cases hb : a.1 = true
    · simp only [hb, if_true]
      exact (hbody lo acc _ (Nat.le_refl _) (by omega) ha hk).bind (fun t ht _ => hrest t.1 t.2 ht)
    · simp only [hb]
      exact hrest acc _ ha

end Sys2Proof.Reference
end

