-- ==== Sys2Proof/Laws/Classes.lean ====
section
/-! SUPPORT. Every class of commands stays `Within` its effects and never leaves the register file. -/

namespace Sys2Proof.Reference

open Sys2Proof.Machine

/-- A command's outcome, said once: a refusal of an illegal typing state, the illegal-instruction trap of a failed shape check,
or a run that stays within the effects `e`. -/
def Outcomes (e : Effects) (s : State) (o : Host.Outcome State Fault Refusal) : Prop :=
  (s.typingOk = false ∧ o = .refused .typingState)
    ∨ (s.typingOk = true ∧ o = .next (s.takeTrap .illegalInstruction))
    ∨ (s.typingOk = true ∧ ∃ r, Good e s id (fun _ => True) r ∧ o = finish r)

theorem runCommand_good {e : Effects} {s : State} {shapes : State → Bool} {body : State → Run State}
    (h : s.typingOk = true → shapes s = true → Good e s id (fun _ => True) (body s.clearHidden)) :
    Outcomes e s (runCommand shapes body s) := by
  by_cases ht : s.typingOk = true
  · by_cases hs : shapes s = true
    · exact .inr (.inr ⟨ht, _, h ht hs, by rw [runCommand, if_pos ht, if_pos hs]⟩)
    · exact .inr (.inl ⟨ht, runCommand_illegal ht (by simpa using hs)⟩)
  · exact .inl ⟨by simpa using ht, runCommand_refused (by simpa using ht)⟩

/-! ### Element loops -/

theorem elementLoop_good {e : Effects} {s : State} {act : Nat → State → Run (Bool × State)} {body : Nat → State → Run State}
    (ht : s.typingOk = true)
    (hact : ∀ ei t, ei < s.vlmax → Within e s t → At ei t → Good e s Prod.snd (At ei) (act ei t))
    (hbody : ∀ ei t, s.vstart ≤ ei → ei < s.vl → ei < s.vlmax → Within e s t → At ei t → Good e s id (At ei) (body ei t)) :
    Good e s id (fun _ => True) (elementLoop act body s.clearHidden) := by
  have hv := State.typingOk_vl ht
  exact elementSteps_good (Nat.le_refl _) (fun _ => by unfold cursorBound; show s.vstart + (s.vl - s.vstart) ≤ _; omega)
    (fun ei t h1 h2 => hact ei t (lt_vlmax_of_element ht h1 h2).2)
    (fun ei t h1 h2 => hbody ei t h1 (lt_vlmax_of_element ht h1 h2).1 (lt_vlmax_of_element ht h1 h2).2) .start

theorem mask0_inside {s : State} {ei : Nat} (ht : s.typingOk = true) (hei : ei < s.vlmax) : s.maskOffset 0 ei < s.vrfSize :=
  State.mask_inside ht (by omega) hei

theorem maskedLoop_good {e : Effects} {s : State} {vm : Bool} {body : Nat → State → Run State} (ht : s.typingOk = true)
    (hbody : ∀ ei t, s.vstart ≤ ei → ei < s.vl → ei < s.vlmax → Within e s t → At ei t → Good e s id (At ei) (body ei t)) :
    Good e s id (fun _ => True) (elementLoop (activeElement vm) body s.clearHidden) :=
  elementLoop_good ht (fun _ _ hm h hk => activeElement_good h hk (mask0_inside ht hm)) hbody

theorem everyLoop_good {e : Effects} {s : State} {body : Nat → State → Run State} (ht : s.typingOk = true)
    (hbody : ∀ ei t, s.vstart ≤ ei → ei < s.vl → ei < s.vlmax → Within e s t → At ei t → Good e s id (At ei) (body ei t)) :
    Good e s id (fun _ => True) (elementLoop everyElement body s.clearHidden) :=
  elementLoop_good ht (fun _ _ _ h hk => ⟨h, hk⟩) hbody

variable {e : Effects} {s : State}

theorem orSat_good {t : State} (b : Bool) (h : Within e s t) (hb : b = true → e.sat = true) : Within e s (t.orSat b) := by
  cases hb' : b with
  | true => exact h.orSat true (hb hb')
  | false =>
    have : t.orSat false = t := by simp [State.orSat]
    rw [this]; exact h

theorem binaryBody_good {w2 w1 wd vd vs2 ei : Nat} {src : Src} {f : ElemFn w2 w1 wd} {t : State} (h : Within e s t)
    (hk : At ei t) (hf : ∀ b a, (f b a).2 = true → e.sat = true)
    (h2 : vs2 * s.cfg.vlenb + ei * (w2 / 8) + w2 / 8 ≤ s.vrfSize) (h1 : srcInside s w1 ei src)
    (hd : vd * s.cfg.vlenb + ei * (wd / 8) + wd / 8 ≤ s.vrfSize) :
    Good e s id (At ei) (binaryBody w2 w1 wd vd vs2 src f ei t) :=
  (vread_good h hk h2).bind fun _ ha hk => (operand1_good ha hk h1).bind fun _ hb hk =>
    vwrite_good (orSat_good _ hb (hf _ _)) hk hd

theorem ternaryBody_good {w1 wd vd vs2 ei : Nat} {src : Src} {f : BitVec w1 → BitVec w1 → BitVec wd → BitVec wd}
    {t : State} (h : Within e s t) (hk : At ei t)
    (h2 : vs2 * s.cfg.vlenb + ei * (w1 / 8) + w1 / 8 ≤ s.vrfSize) (h1 : srcInside s w1 ei src)
    (hd : vd * s.cfg.vlenb + ei * (wd / 8) + wd / 8 ≤ s.vrfSize) :
    Good e s id (At ei) (ternaryBody w1 wd vd vs2 src f ei t) :=
  (operand1_good h hk h1).bind fun _ ha hk => (vread_good ha hk h2).bind fun _ hb hk => (vread_good hb hk hd).bind fun _ hc hk =>
    vwrite_good hc hk hd

theorem sameWidth_good {vm : Bool} {vd vs2 : Nat} {src : Src} {f : (w : Nat) → ElemFn w w w}
    (hf : ∀ w b a, (f w b a).2 = true → e.sat = true) : Outcomes e s (sameWidth vm vd vs2 src f s) := by
  refine runCommand_good fun ht hs => ?_
  simp only [sameWidthShapes, Bool.and_eq_true] at hs
  exact maskedLoop_good ht fun _ _ _ _ hm h hk => binaryBody_good h hk (hf _) (State.narrow_inside ht hs.1.2 hm)
    (srcInside_of_ok ht hs.2 hm) (State.narrow_inside ht hs.1.1 hm)

theorem widening_good {vm : Bool} {vd vs2 : Nat} {src : Src} {f : (w : Nat) → BitVec w → BitVec w → BitVec (2 * w)} :
    Outcomes e s (widening vm vd vs2 src f s) := by
  refine runCommand_good fun ht hs => ?_
  simp only [wideningShapes, Bool.and_eq_true] at hs
  exact maskedLoop_good ht fun _ _ _ _ hm h hk => binaryBody_good h hk (by simp [plain]) (State.narrow_inside ht hs.1.2 hm)
    (srcInside_of_ok ht hs.2 hm) (State.wide_inside ht hs.1.1 hm)

theorem wideningWide_good {vm : Bool} {vd vs2 : Nat} {src : Src}
    {f : (w : Nat) → BitVec (2 * w) → BitVec w → BitVec (2 * w)} : Outcomes e s (wideningWide vm vd vs2 src f s) := by
  refine runCommand_good fun ht hs => ?_
  simp only [wideningWideShapes, Bool.and_eq_true] at hs
  exact maskedLoop_good ht fun _ _ _ _ hm h hk => binaryBody_good h hk (by simp [plain]) (State.wide_inside ht hs.1.2 hm)
    (srcInside_of_ok ht hs.2 hm) (State.wide_inside ht hs.1.1 hm)

theorem narrowing_good {vm : Bool} {vd vs2 : Nat} {src : Src} {f : (w : Nat) → ElemFn (2 * w) w w}
    (hf : ∀ w b a, (f w b a).2 = true → e.sat = true) : Outcomes e s (narrowing vm vd vs2 src f s) := by
  refine runCommand_good fun ht hs => ?_
  simp only [narrowingShapes, Bool.and_eq_true] at hs
  exact maskedLoop_good ht fun _ _ _ _ hm h hk => binaryBody_good h hk (hf _) (State.wide_inside ht hs.1.2 hm)
    (srcInside_of_ok ht hs.2 hm) (State.narrow_inside ht hs.1.1 hm)

theorem extension_good {vm : Bool} {vd vs2 fLog : Nat} {f : (w2 w : Nat) → BitVec w2 → BitVec w} (hf : fLog ≤ 3) :
    Outcomes e s (extension vm vd vs2 fLog f s) := by
  refine runCommand_good fun ht hs => ?_
  simp only [extensionShapes, Bool.and_eq_true] at hs
  exact maskedLoop_good ht fun _ _ _ _ hm h hk => (vread_good h hk (State.fraction_inside ht hf hs.2 hm)).bind
    fun _ ha hk => vwrite_good ha hk (State.narrow_inside ht hs.1 hm)

theorem multiplyAdd_good {vm : Bool} {vd vs2 : Nat} {src : Src} {f : (w : Nat) → BitVec w → BitVec w → BitVec w → BitVec w} :
    Outcomes e s (multiplyAdd vm vd vs2 src f s) := by
  refine runCommand_good fun ht hs => ?_
  simp only [sameWidthShapes, Bool.and_eq_true] at hs
  exact maskedLoop_good ht fun _ _ _ _ hm h hk => ternaryBody_good h hk (State.narrow_inside ht hs.1.2 hm)
    (srcInside_of_ok ht hs.2 hm) (State.narrow_inside ht hs.1.1 hm)

theorem wideningMultiplyAdd_good {vm : Bool} {vd vs2 : Nat} {src : Src}
    {f : (w : Nat) → BitVec w → BitVec w → BitVec (2 * w) → BitVec (2 * w)} :
    Outcomes e s (wideningMultiplyAdd vm vd vs2 src f s) := by
  refine runCommand_good fun ht hs => ?_
  simp only [wideningShapes, Bool.and_eq_true] at hs
  exact maskedLoop_good ht fun _ _ _ _ hm h hk => ternaryBody_good h hk (State.narrow_inside ht hs.1.2 hm)
    (srcInside_of_ok ht hs.2 hm) (State.wide_inside ht hs.1.1 hm)

theorem withCarry_good {vd vs2 : Nat} {src : Src} {f : (w : Nat) → BitVec w → BitVec w → Bool → BitVec w} :
    Outcomes e s (withCarry vd vs2 src f s) := by
  refine runCommand_good fun ht hs => ?_
  simp only [sameWidthShapes, Bool.and_eq_true] at hs
  exact everyLoop_good ht fun _ _ _ _ hm h hk => (vread_good h hk (State.narrow_inside ht hs.1.2 hm)).bind fun _ ha hk =>
    (operand1_good ha hk (srcInside_of_ok ht hs.2 hm)).bind fun _ hb hk => (maskbit_good hb hk (mask0_inside ht hm)).bind
      fun _ hc hk => vwrite_good hc hk (State.narrow_inside ht hs.1.1 hm)

/-! ### Mask destinations -/

theorem maskLoop_good {act : Nat → State → Run (Bool × State)} {body : Nat → State → Run State} {vd : Nat}
    (he : e.mask = some vd) (h : Good e s id (fun _ => True) (elementLoop act body s.clearHidden)) :
    Good e s id (fun _ => True) (maskLoop act vd body s.clearHidden) :=
  h.bind fun _ ht _ => ⟨ht.settle vd he, trivial⟩

theorem compare_good {vm : Bool} {vd vs2 : Nat} {src : Src} {p : (w : Nat) → BitVec w → BitVec w → Bool} (hvd : vd < 32)
    (he : e.mask = some vd) : Outcomes e s (compare vm vd vs2 src p s) := by
  refine runCommand_good fun ht hs => ?_
  simp only [maskShapes, Bool.and_eq_true] at hs
  exact maskLoop_good he (maskedLoop_good ht fun _ _ _ _ hm h hk => (vread_good h hk (State.narrow_inside ht hs.1 hm)).bind
    fun _ ha hk => (operand1_good ha hk (srcInside_of_ok ht hs.2 hm)).bind fun _ hb hk =>
      mwrite_good hb hk he (State.mask_inside ht hvd hm))

theorem carryOut_good {vd vs2 : Nat} {src : Src} {p : (w : Nat) → BitVec w → BitVec w → Bool → Bool} (hvd : vd < 32)
    (he : e.mask = some vd) : Outcomes e s (carryOut vd vs2 src p s) := by
  refine runCommand_good fun ht hs => ?_
  simp only [maskShapes, Bool.and_eq_true] at hs
  exact maskLoop_good he (everyLoop_good ht fun _ _ _ _ hm h hk => (vread_good h hk (State.narrow_inside ht hs.1 hm)).bind
    fun _ ha hk => (operand1_good ha hk (srcInside_of_ok ht hs.2 hm)).bind fun _ hb hk =>
      mwrite_good hb hk he (State.mask_inside ht hvd hm))

theorem carryOutIn_good {vd vs2 : Nat} {src : Src} {p : (w : Nat) → BitVec w → BitVec w → Bool → Bool} (hvd : vd < 32)
    (he : e.mask = some vd) : Outcomes e s (carryOutIn vd vs2 src p s) := by
  refine runCommand_good fun ht hs => ?_
  simp only [maskShapes, Bool.and_eq_true] at hs
  exact maskLoop_good he (everyLoop_good ht fun _ _ _ _ hm h hk => (vread_good h hk (State.narrow_inside ht hs.1 hm)).bind
    fun _ ha hk => (operand1_good ha hk (srcInside_of_ok ht hs.2 hm)).bind fun _ hb hk =>
      (maskbit_good hb hk (mask0_inside ht hm)).bind fun _ hc hk =>
        mwrite_good hc hk he (State.mask_inside ht hvd hm))

/-! ### Reductions -/

theorem reduceRun_good {w aw vd vs2 vs1 : Nat} {vm : Bool} {ext : BitVec w → BitVec aw}
    {op : BitVec aw → BitVec aw → BitVec aw} (ht : s.typingOk = true)
    (h2 : ∀ ei, ei < s.vlmax → vs2 * s.cfg.vlenb + ei * (w / 8) + w / 8 ≤ s.vrfSize)
    (h1 : vs1 * s.cfg.vlenb + 0 * (aw / 8) + aw / 8 ≤ s.vrfSize) (hd : vd * s.cfg.vlenb + 0 * (aw / 8) + aw / 8 ≤ s.vrfSize) :
    Good e s id (fun _ => True) (reduceRun w aw vm vd vs2 vs1 ext op s.clearHidden) := by
  have hv := State.typingOk_vl ht
  rw [reduceRun]
  split
  · exact ⟨.start, trivial⟩
  refine (vread_good (k := s.vstart) .start rfl h1).bind fun _ ha hk => ?_
  refine (foldSteps_good (s0 := s) (Nat.le_refl _) ?_ ?_ ?_ _ ha).bind fun b hb _ => ?_
  · intro g; change 0 < s.vl - s.vstart at g; unfold cursorBound; show s.vstart + (s.vl - s.vstart) ≤ _; omega
  · intro ei g1 g2; exact mask0_inside ht (lt_vlmax_of_element ht g1 g2).2
  · intro ei acc t g1 g2 h hk
    exact (vread_good h hk (h2 ei (lt_vlmax_of_element ht g1 g2).2)).bind fun _ hc hk => ⟨hc, hk⟩
  · exact (vwrite_good (k := b.2.vstart) hb rfl hd).weaken fun _ _ => trivial

theorem reduce_good {vm : Bool} {vd vs2 vs1 : Nat} {op : (w : Nat) → BitVec w → BitVec w → BitVec w}
    (hc : s.cfg.wf = true) : Outcomes e s (reduce vm vd vs2 vs1 op s) := by
  refine runCommand_good fun ht hs => ?_
  simp only [reductionShapes, Bool.and_eq_true] at hs
  exact reduceRun_good ht (fun ei hm => State.narrow_inside ht hs.1.1 hm) (element_inside hc hs.2) (element_inside hc hs.1.2)

theorem reduceWide_good {vm : Bool} {vd vs2 vs1 : Nat} {ext : (w w2 : Nat) → BitVec w → BitVec w2}
    {op : (w : Nat) → BitVec w → BitVec w → BitVec w}
    (hc : s.cfg.wf = true) : Outcomes e s (reduceWide vm vd vs2 vs1 ext op s) := by
  refine runCommand_good fun ht hs => ?_
  simp only [reductionShapes, Bool.and_eq_true] at hs
  exact reduceRun_good ht (fun ei hm => State.narrow_inside ht hs.1.1 hm) (element_inside hc hs.2) (element_inside hc hs.1.2)

/-! ### Gathers and slides -/

theorem permute_good {vm : Bool} {vd vs2 : Nat} {src : Src} {body : Nat → State → Run State}
    (hbody : s.typingOk = true → sameWidthShapes vd vs2 src s = true → ∀ ei t, ei < s.vl → ei < s.vlmax → Within e s t →
      At ei t → Good e s id (At ei) (body ei t)) : Outcomes e s (permute vm vd vs2 src body s) :=
  runCommand_good fun ht hs => maskedLoop_good ht fun ei t _ h1 h2 h hk => hbody ht hs ei t h1 h2 h hk

theorem gather_good {vm : Bool} {vd vs2 : Nat} {src : Src} :
    Outcomes e s (permute vm vd vs2 src (gatherBody s.sew s.vlmax vd vs2 src) s) := by
  refine permute_good fun ht hs ei _ _ hm h hk => ?_
  simp only [sameWidthShapes, Bool.and_eq_true] at hs
  refine (indexOperand_good h hk (srcInside_of_ok ht hs.2 hm)).bind fun _ ha hk => ?_
  dsimp only
  split
  · exact vwrite_good ha hk (State.narrow_inside ht hs.1.1 hm)
  · exact (vread_good ha hk (State.narrow_inside ht hs.1.2 (by omega))).bind fun _ hb hk =>
      vwrite_good hb hk (State.narrow_inside ht hs.1.1 hm)

theorem slideUp_good {vm : Bool} {vd vs2 : Nat} {src : Src} :
    Outcomes e s (permute vm vd vs2 src (slideUpBody s.sew vd vs2 src) s) := by
  refine permute_good fun ht hs ei _ _ hm h hk => ?_
  simp only [sameWidthShapes, Bool.and_eq_true] at hs
  refine (indexOperand_good h hk (srcInside_of_ok ht hs.2 hm)).bind fun _ ha hk => ?_
  dsimp only
  split
  · exact (vread_good ha hk (State.narrow_inside ht hs.1.2 (by omega))).bind fun _ hb hk =>
      vwrite_good hb hk (State.narrow_inside ht hs.1.1 hm)
  · exact ⟨ha, hk⟩

theorem slideDown_good {vm : Bool} {vd vs2 : Nat} {src : Src} :
    Outcomes e s (permute vm vd vs2 src (slideDownBody s.sew s.vlmax vd vs2 src) s) := by
  refine permute_good fun ht hs ei _ _ hm h hk => ?_
  simp only [sameWidthShapes, Bool.and_eq_true] at hs
  refine (indexOperand_good h hk (srcInside_of_ok ht hs.2 hm)).bind fun _ ha hk => ?_
  dsimp only
  split
  · exact (vread_good ha hk (State.narrow_inside ht hs.1.2 (by omega))).bind fun _ hb hk =>
      vwrite_good hb hk (State.narrow_inside ht hs.1.1 hm)
  · exact vwrite_good ha hk (State.narrow_inside ht hs.1.1 hm)

theorem slideOneUp_good {vm : Bool} {vd vs2 rs1 : Nat} :
    Outcomes e s (permute vm vd vs2 (.scalar rs1) (slide1UpBody s.sew vd vs2 rs1) s) := by
  refine permute_good fun ht hs ei _ _ hm h hk => ?_
  simp only [sameWidthShapes, Bool.and_eq_true] at hs
  unfold slide1UpBody
  split
  · exact vwrite_good h hk (State.narrow_inside ht hs.1.1 hm)
  · exact (vread_good h hk (State.narrow_inside ht hs.1.2 (by omega))).bind fun _ hb hk =>
      vwrite_good hb hk (State.narrow_inside ht hs.1.1 hm)

theorem slideOneDown_good {vm : Bool} {vd vs2 rs1 : Nat} :
    Outcomes e s (permute vm vd vs2 (.scalar rs1) (slide1DownBody s.sew s.vl vd vs2 rs1) s) := by
  refine permute_good fun ht hs ei _ hl hm h hk => ?_
  have := State.typingOk_vl ht
  simp only [sameWidthShapes, Bool.and_eq_true] at hs
  unfold slide1DownBody
  split
  · exact vwrite_good h hk (State.narrow_inside ht hs.1.1 hm)
  · exact (vread_good h hk (State.narrow_inside ht hs.1.2 (by omega))).bind fun _ hb hk =>
      vwrite_good hb hk (State.narrow_inside ht hs.1.1 hm)

/-! ### Memory accesses -/

theorem vwriteField_good {t : State} {w reg ei fi k : Nat} {emul : Int} {v : BitVec w} (h : Within e s t) (hk : At k t)
    (hr : s.elemOffset reg fi ei w emul + w / 8 ≤ s.vrfSize) : Good e s id (At k) (vwriteField w reg ei fi emul v t) :=
  vwriteAt_good h hk (by rw [h.fixed.elemOffset]; exact hr)

theorem vreadField_good {t : State} {w reg ei fi k : Nat} {emul : Int} (h : Within e s t) (hk : At k t)
    (hr : s.elemOffset reg fi ei w emul + w / 8 ≤ s.vrfSize) : Good e s Prod.snd (At k) (vreadField w reg ei fi emul t) :=
  vreadAt_good h hk (by rw [h.fixed.elemOffset]; exact hr)

theorem loadFields_good {w vd ei nf : Nat} {emul : Int} {addr : FieldAddr} {n fi : Nat} {t : State} (h : Within e s t)
    (hk : At ei t) (hc : e.call = true) (hs : e.store = false) (h1 : s.vstart ≤ ei) (h2 : ei < cursorBound s)
    (hn : fi + n ≤ nf + 1) (hr : ∀ fi, fi ≤ nf → s.elemOffset vd fi ei w emul + w / 8 ≤ s.vrfSize) :
    Good e s id (At ei) (loadFields w vd ei emul addr n fi t) := by
  induction n generalizing fi t with
  | zero => exact ⟨h, hk⟩
  | succ n ih =>
    exact (memRead_good h hk hc hs h1 h2).bind fun _ ha hk => (vwriteField_good ha hk (hr fi (by omega))).bind fun _ hb hk =>
      ih hb hk (by omega)

theorem storeFields_good {w vs3 ei nf : Nat} {emul : Int} {addr : FieldAddr} {n fi : Nat} {t : State} (h : Within e s t)
    (hk : At ei t) (hc : e.call = true) (hs : e.store = true) (h1 : s.vstart ≤ ei) (h2 : ei < cursorBound s)
    (hn : fi + n ≤ nf + 1) (hr : ∀ fi, fi ≤ nf → s.elemOffset vs3 fi ei w emul + w / 8 ≤ s.vrfSize) :
    Good e s id (At ei) (storeFields w vs3 ei emul addr n fi t) := by
  induction n generalizing fi t with
  | zero => exact ⟨h, hk⟩
  | succ n ih =>
    exact (vreadField_good h hk (hr fi (by omega))).bind fun _ ha hk => (memWrite_good ha hk hc hs h1 h2).bind fun _ hb hk =>
      ih hb hk (by omega)

theorem lt_cursorBound {ei : Nat} (h : ei < s.vl) : ei < cursorBound s := by unfold cursorBound; omega

theorem unitLoad_good {eLog nf vd rs1 : Nat} {vm : Bool} (hc : e.call = true) (hst : e.store = false) :
    Outcomes e s (unitLoad eLog vm nf vd rs1 s) :=
  runCommand_good fun ht hs => maskedLoop_good ht fun _ _ g1 g2 g3 h hk =>
    loadFields_good h hk hc hst g1 (lt_cursorBound g2) (Nat.le_of_eq (Nat.zero_add _))
      fun fi hfi => by rw [h.fixed.emulLog]; exact State.operand_inside ht hs g3 hfi

theorem unitStore_good {eLog nf vs3 rs1 : Nat} {vm : Bool} (hc : e.call = true) (hst : e.store = true) :
    Outcomes e s (unitStore eLog vm nf vs3 rs1 s) :=
  runCommand_good fun ht hs => maskedLoop_good ht fun _ _ g1 g2 g3 h hk =>
    storeFields_good h hk hc hst g1 (lt_cursorBound g2) (Nat.le_of_eq (Nat.zero_add _))
      fun fi hfi => by rw [h.fixed.emulLog]; exact State.operand_inside ht hs g3 hfi

theorem stridedLoad_good {eLog nf vd rs1 rs2 : Nat} {vm : Bool} (hc : e.call = true) (hst : e.store = false) :
    Outcomes e s (stridedLoad eLog vm nf vd rs1 rs2 s) :=
  runCommand_good fun ht hs => maskedLoop_good ht fun _ _ g1 g2 g3 h hk =>
    loadFields_good h hk hc hst g1 (lt_cursorBound g2) (Nat.le_of_eq (Nat.zero_add _))
      fun fi hfi => by rw [h.fixed.emulLog]; exact State.operand_inside ht hs g3 hfi

theorem stridedStore_good {eLog nf vs3 rs1 rs2 : Nat} {vm : Bool} (hc : e.call = true) (hst : e.store = true) :
    Outcomes e s (stridedStore eLog vm nf vs3 rs1 rs2 s) :=
  runCommand_good fun ht hs => maskedLoop_good ht fun _ _ g1 g2 g3 h hk =>
    storeFields_good h hk hc hst g1 (lt_cursorBound g2) (Nat.le_of_eq (Nat.zero_add _))
      fun fi hfi => by rw [h.fixed.emulLog]; exact State.operand_inside ht hs g3 hfi

theorem indexed_field_inside {reg nf fi ei : Nat} (ht : s.typingOk = true) (h : s.indexedDataOk reg nf = true)
    (hei : ei < s.vlmax) (hfi : fi ≤ nf) : s.elemOffset reg fi ei s.sew s.lmulLog + s.sew / 8 ≤ s.vrfSize := by
  have := State.operand_inside (reg := reg) (e := s.sewLog) (nf := nf) (fi := fi) ht
    (by rw [State.emulLog_sewLog]; exact h) hei hfi
  rwa [State.emulLog_sewLog] at this

theorem indexReg_inside {eLog vs2 ei : Nat} (ht : s.typingOk = true) (h : s.memoryOk eLog vs2 0 = true) (hei : ei < s.vlmax) :
    vs2 * s.cfg.vlenb + ei * (2 ^ eLog / 8) + 2 ^ eLog / 8 ≤ s.vrfSize := by
  have := State.operand_inside (reg := vs2) (e := eLog) (nf := 0) (fi := 0) ht h hei (Nat.le_refl _)
  simpa [State.elemOffset] using this

theorem indexedLoad_good {eLog nf vd rs1 vs2 : Nat} {vm : Bool} (hc : e.call = true) (hst : e.store = false) :
    Outcomes e s (indexedLoad eLog vm nf vd rs1 vs2 s) := by
  refine runCommand_good fun ht hs => ?_
  simp only [indexedShapes, Bool.and_eq_true] at hs
  exact maskedLoop_good ht fun _ _ g1 g2 g3 h hk => (vread_good h hk (indexReg_inside ht hs.2 g3)).bind fun _ ha hk =>
    loadFields_good ha hk hc hst g1 (lt_cursorBound g2) (Nat.le_of_eq (Nat.zero_add _))
      fun fi hfi => by rw [ha.fixed.sew, ha.fixed.lmulLog]; exact indexed_field_inside ht hs.1 g3 hfi

theorem indexedStore_good {eLog nf vs3 rs1 vs2 : Nat} {vm : Bool} (hc : e.call = true) (hst : e.store = true) :
    Outcomes e s (indexedStore eLog vm nf vs3 rs1 vs2 s) := by
  refine runCommand_good fun ht hs => ?_
  simp only [indexedShapes, Bool.and_eq_true] at hs
  exact maskedLoop_good ht fun _ _ g1 g2 g3 h hk => (vread_good h hk (indexReg_inside ht hs.2 g3)).bind fun _ ha hk =>
    storeFields_good ha hk hc hst g1 (lt_cursorBound g2) (Nat.le_of_eq (Nat.zero_add _))
      fun fi hfi => by rw [ha.fixed.sew, ha.fixed.lmulLog]; exact indexed_field_inside ht hs.1 g3 hfi

/-! ### Fault-only-first loads -/

theorem probeFields_good {w : Nat} {addr : FieldAddr} {n fi k : Nat} {t : State} (h : Within e s t) (hk : At k t)
    (hc : e.call = true) (hcut : e.cut = true) :
    Within e s (probeFields w addr n fi t).2 ∧ At k (probeFields w addr n fi t).2
      ∧ (probeFields w addr n fi t).1.length ≤ n := by
  induction n generalizing fi t with
  | zero => exact ⟨h, hk, Nat.le_refl _⟩
  | succ n ih =>
    unfold probeFields memProbe memGet
    cases hf : t.nextAnswer.fault with
    | none =>
      obtain ⟨g1, g2, g3⟩ := ih (fi := fi + 1) ((h.takeAnswer hc).record ⟨.probe, t.addr (addr fi), w / 8,
        Memory.readList t.takeAnswer.mem (t.takeAnswer.byteAddrs (t.addr (addr fi)) (w / 8)), none⟩ hc) hk
      exact ⟨g1, g2, Nat.succ_le_succ g3⟩
    | some kind =>
      have := addr_lt t (addr fi)
      rw [h.fixed.xmod] at this
      exact ⟨((h.takeAnswer hc).record _ hc).pend _ hcut this, hk, Nat.zero_le _⟩

theorem writeFields_good {w vd ei nf : Nat} {emul : Int} {vs : List Nat} {fi : Nat} {t : State} (h : Within e s t)
    (hk : At ei t) (hn : fi + vs.length ≤ nf + 1)
    (hr : ∀ fi, fi ≤ nf → s.elemOffset vd fi ei w emul + w / 8 ≤ s.vrfSize) :
    Good e s id (At ei) (writeFields w vd ei emul fi vs t) := by
  induction vs generalizing fi t with
  | nil => exact ⟨h, hk⟩
  | cons v vs ih =>
    simp only [List.length_cons] at hn
    exact (vwriteField_good h hk (hr fi (by omega))).bind fun _ hb hk => ih hb hk (by omega)

theorem firstFaultLoad_good {eLog nf vd rs1 : Nat} {vm : Bool} (hc : e.call = true) (hst : e.store = false)
    (hcut : e.cut = true) : Outcomes e s (firstFaultLoad eLog vm nf vd rs1 s) := by
  refine runCommand_good fun ht hs => maskedLoop_good ht fun ei t g1 g2 g3 h hk => ?_
  have hr : ∀ fi, fi ≤ nf → s.elemOffset vd fi ei (2 ^ eLog) (t.emulLog eLog) + 2 ^ eLog / 8 ≤ s.vrfSize := fun fi hfi => by
    rw [h.fixed.emulLog]; exact State.operand_inside ht hs g3 hfi
  obtain ⟨p1, p2, p3⟩ := probeFields_good (w := 2 ^ eLog) (addr := unitAddr (t.xval rs1) nf (2 ^ eLog / 8) ei) (n := nf + 1)
    (fi := 0) h hk hc hcut
  simp only [firstFaultBody]
  generalize probeFields (2 ^ eLog) (unitAddr (t.xval rs1) nf (2 ^ eLog / 8) ei) (nf + 1) 0 t = r at p1 p2 p3
  have hpc : r.2.vstart = ei := p2
  cases hf : r.2.ffPending with
  | none => exact writeFields_good p1 p2 (by omega) hr
  | some info =>
    dsimp only
    split
    · refine ⟨p1, by omega, ?_, hc, info, by rw [hst], p1.pending _ hf⟩
      rw [hpc]; exact lt_cursorBound g2
    · exact ⟨hcut, r.2, ei, p1, g1, by omega, g2, rfl⟩

/-! ### Byte loops -/

theorem byteSteps_good {body : Nat → State → Run State} {n lo : Nat} (hlo : s.vstart ≤ lo)
    (hn : 0 < n → lo + n ≤ cursorBound s)
    (hbody : ∀ j t, lo ≤ j → j < lo + n → Within e s t → At j t → Good e s id (At j) (body j t))
    {t : State} (h : Within e s t) : Good e s id (fun _ => True) (byteSteps body n lo t) := by
  induction n generalizing lo t with
  | zero => exact ⟨h, trivial⟩
  | succ n ih =>
    have hn' := hn (by omega)
    exact (hbody lo _ (Nat.le_refl _) (by omega) (h.pin lo hlo (by omega)) rfl).bind fun t ht _ =>
      ih (by omega) (fun _ => by omega) (fun j t h1 h2 => hbody j t (by omega) (by omega)) ht

theorem byteLoop_good {n : Nat} {body : Nat → State → Run State} (hn : n ≤ 8 * s.cfg.vlenb)
    (hbody : ∀ j t, s.vstart ≤ j → j < n → j < cursorBound s → Within e s t → At j t → Good e s id (At j) (body j t)) :
    Good e s id (fun _ => True) (byteLoop n body s.clearHidden) := by
  have hb : n ≤ cursorBound s := by unfold cursorBound; omega
  refine byteSteps_good (Nat.le_refl _) (fun g => ?_) (fun j t h1 h2 => ?_) .start
  · change 0 < n - s.vstart at g
    show s.vstart + (n - s.vstart) ≤ _; omega
  · change s.vstart ≤ j at h1
    change j < s.vstart + (n - s.vstart) at h2
    exact hbody j t h1 (by omega) (by omega)

theorem loadByte_good {vd rs1 j : Nat} {t : State} (h : Within e s t) (hk : At j t) (hc : e.call = true)
    (hst : e.store = false) (h1 : s.vstart ≤ j) (h2 : j < cursorBound s) (hr : vd * s.cfg.vlenb + j + 1 ≤ s.vrfSize) :
    Good e s id (At j) (loadByte vd rs1 j t) :=
  (memRead_good h hk hc hst h1 h2).bind fun _ ha hk => vwriteAt_good ha hk (by rw [ha.fixed.cfg]; exact hr)

theorem storeByte_good {vs3 rs1 j : Nat} {t : State} (h : Within e s t) (hk : At j t) (hc : e.call = true)
    (hst : e.store = true) (h1 : s.vstart ≤ j) (h2 : j < cursorBound s) (hr : vs3 * s.cfg.vlenb + j + 1 ≤ s.vrfSize) :
    Good e s id (At j) (storeByte vs3 rs1 j t) :=
  (vreadAt_good h hk (by rw [h.fixed.cfg]; exact hr)).bind fun _ ha hk => memWrite_good ha hk hc hst h1 h2

theorem whole_byte_inside {reg n j : Nat} (h : wholeOk reg n = true) (hj : j < s.cfg.vlenb * n) :
    reg * s.cfg.vlenb + j + 1 ≤ s.vrfSize := by
  simp only [wholeOk, Bool.and_eq_true, decide_eq_true_eq] at h
  have := Nat.mul_le_mul_right s.cfg.vlenb h.2
  rw [Nat.add_mul] at this
  rw [Nat.mul_comm] at hj
  unfold State.vrfSize
  omega

theorem wholeLoad_good {n vd rs1 : Nat} (hn : n ≤ 8) (hc : e.call = true) (hst : e.store = false) :
    Outcomes e s (wholeLoad n vd rs1 s) :=
  runCommand_good fun _ hs => byteLoop_good (by show s.cfg.vlenb * n ≤ _; rw [Nat.mul_comm]; exact Nat.mul_le_mul_right _ hn)
    fun _ _ g1 g2 g3 h hk => loadByte_good h hk hc hst g1 g3 (whole_byte_inside hs g2)

theorem wholeStore_good {n vs3 rs1 : Nat} (hn : n ≤ 8) (hc : e.call = true) (hst : e.store = true) :
    Outcomes e s (wholeStore n vs3 rs1 s) :=
  runCommand_good fun _ hs => byteLoop_good (by show s.cfg.vlenb * n ≤ _; rw [Nat.mul_comm]; exact Nat.mul_le_mul_right _ hn)
    fun _ _ g1 g2 g3 h hk => storeByte_good h hk hc hst g1 g3 (whole_byte_inside hs g2)

theorem maskBytes_le (ht : s.typingOk = true) : s.maskBytes ≤ s.cfg.vlenb := by
  have hv := State.typingOk_vl ht
  have h1 : 1 ≤ s.vlmax := by
    simp only [State.typingOk, Bool.and_eq_true, decide_eq_true_eq] at ht
    exact ht.1.2
  have := State.mask_byte_lt (ei := s.vlmax - 1) ht (by omega)
  unfold State.maskBytes
  omega

theorem mask_byte_inside {reg j : Nat} (ht : s.typingOk = true) (hr : reg < 32) (hj : j < s.maskBytes) :
    reg * s.cfg.vlenb + j + 1 ≤ s.vrfSize := by
  have := maskBytes_le ht
  have h := Nat.mul_le_mul_right s.cfg.vlenb (show reg + 1 ≤ 32 from hr)
  rw [Nat.add_mul] at h
  unfold State.vrfSize numVregs
  omega

theorem maskLoad_good {vd rs1 : Nat} (hr : vd < 32) (hc : e.call = true) (hst : e.store = false) :
    Outcomes e s (execVlmV vd rs1 s) :=
  runCommand_good fun ht _ => byteLoop_good (by have := maskBytes_le ht; show s.maskBytes ≤ _; omega)
    fun _ _ g1 g2 g3 h hk => loadByte_good h hk hc hst g1 g3 (mask_byte_inside ht hr g2)

theorem maskStore_good {vs3 rs1 : Nat} (hr : vs3 < 32) (hc : e.call = true) (hst : e.store = true) :
    Outcomes e s (execVsmV vs3 rs1 s) :=
  runCommand_good fun ht _ => byteLoop_good (by have := maskBytes_le ht; show s.maskBytes ≤ _; omega)
    fun _ _ g1 g2 g3 h hk => storeByte_good h hk hc hst g1 g3 (mask_byte_inside ht hr g2)

end Sys2Proof.Reference
end

