-- ==== Sys2Proof/Laws/Exec.lean ====
section
/-! SUPPORT. Every instruction's run stays within its effects: the law from which the whole-machine rules follow. -/

namespace Sys2Proof.Reference

open Sys2Proof.Machine

/-- The three stores are canonical and inside their address ranges, and so is every touched byte of a mask destination. -/
structure Stores (e : Effects) (s0 s : State) : Prop where
  vrf : s.vrf.fits s0.vrfSize = true
  marks : s.vrfWritten.fits s0.vrfSize = true
  mem : s.mem.fits s0.xmod = true
  touched : ∀ vd, e.mask = some vd → ∀ b ∈ s.touched, vd * s0.cfg.vlenb + b < s0.vrfSize

theorem byteOffsets_lt {off n size a : Nat} (h : off + n ≤ size) (ha : a ∈ byteOffsets off n) : a < size := by
  simp only [byteOffsets, List.mem_range'_1] at ha
  omega

theorem drawMaskBits_fits {s0 s : State} {vd : Nat} {l : List Nat} (hs : s.vrf.fits s0.vrfSize = true)
    (hl : ∀ ei ∈ l, s.maskOffset vd ei < s0.vrfSize) : (s.drawMaskBits vd l).vrf.fits s0.vrfSize = true := by
  induction l generalizing s with
  | nil => exact hs
  | cons ei l ih =>
    rw [State.drawMaskBits]
    split
    · exact ih hs (fun x hx => hl x (by simp [hx]))
    · exact ih (Memory.fits_write hs (hl ei (by simp))) (fun x hx => hl x (by simp [hx]))

theorem Within.stores {e : Effects} {s0 s : State} (hv : s0.vrf.fits s0.vrfSize = true)
    (hm : s0.vrfWritten.fits s0.vrfSize = true) (hx : s0.mem.fits s0.xmod = true) (h : Within e s0 s) : Stores e s0 s := by
  induction h with
  | start => exact ⟨hv, hm, hx, fun _ _ _ hb => by cases hb⟩
  | pin _ _ _ _ ih => exact ⟨ih.1, ih.2, ih.3, ih.4⟩
  | noteRead _ _ _ ih => exact ⟨ih.1, ih.2, ih.3, ih.4⟩
  | putBytes off n v _ hr ih =>
    exact ⟨Memory.fits_writeList _ _ ih.1 (fun _ ha => byteOffsets_lt hr ha),
      Memory.fits_fill _ _ ih.2 (fun _ ha => byteOffsets_lt hr ha), ih.3, ih.4⟩
  | orSat _ _ _ ih => exact ⟨ih.1, ih.2, ih.3, ih.4⟩
  | @putMaskBit s vd ei b h he hr ih =>
    have hr' : s.maskOffset vd ei < s0.vrfSize := by rw [h.fixed.maskOffset]; exact hr
    refine ⟨Memory.fits_write ih.1 hr', Memory.fits_write ih.2 hr', ih.3, fun vd' hvd' x hx => ?_⟩
    rw [he] at hvd'
    cases hvd'
    simp only [State.putMaskBit] at hx
    split at hx
    · exact ih.4 vd he x hx
    · rcases List.mem_append.mp hx with hx | hx
      · exact ih.4 vd he x hx
      · rw [List.mem_singleton.mp hx]; exact hr
  | @settle s vd h he ih =>
    obtain ⟨vrf, draws, hs⟩ := settleMask_fixed s vd
    refine ⟨?_, by rw [hs]; exact ih.2, by rw [hs]; exact ih.3, by rw [hs]; exact ih.4⟩
    unfold State.settleMask
    split
    · exact ih.1
    · exact ih.1
    · refine drawMaskBits_fits ih.1 (fun ei hei => ?_)
      simp only [List.mem_flatMap, List.mem_range'_1] at hei
      obtain ⟨b, hb, h1, h2⟩ := hei
      have : ei / 8 = b := by omega
      rw [h.fixed.maskOffset, State.maskOffset, this]
      exact ih.4 vd he b hb
  | @takeAnswer s h _ ih =>
    refine ⟨ih.1, ih.2, Memory.fits_writeCells _ ih.3 (fun c hc => ?_), ih.4⟩
    obtain ⟨d, _, rfl⟩ := List.mem_map.mp hc
    rw [← h.fixed.xmod]
    exact Nat.mod_lt _ (by unfold State.xmod; positivity)
  | record _ _ _ ih => exact ⟨ih.1, ih.2, ih.3, ih.4⟩
  | @write s addr n v h _ ih =>
    refine ⟨ih.1, ih.2, Memory.fits_writeList _ _ ih.3 (fun a ha => ?_), ih.4⟩
    obtain ⟨k, _, rfl⟩ := List.mem_map.mp ha
    rw [← h.fixed.xmod]
    exact addr_lt _ _
  | pend _ _ _ _ ih => exact ⟨ih.1, ih.2, ih.3, ih.4⟩

/-- What each instruction can change beyond its destination registers. -/
def effects (c : Config) : Instr → Effects
  | .vadd_vv .. | .vadd_vx .. | .vadd_vi .. | .vsub_vv .. | .vsub_vx .. | .vrsub_vx .. | .vrsub_vi ..
  | .vminu_vv .. | .vminu_vx .. | .vmin_vv .. | .vmin_vx .. | .vmaxu_vv .. | .vmaxu_vx .. | .vmax_vv ..
  | .vmax_vx .. | .vand_vv .. | .vand_vx .. | .vand_vi .. | .vor_vv .. | .vor_vx .. | .vor_vi .. | .vxor_vv ..
  | .vxor_vx .. | .vxor_vi .. | .vrgather_vv .. | .vrgather_vx .. | .vrgather_vi .. | .vslideup_vx ..
  | .vslideup_vi .. | .vslidedown_vx .. | .vslidedown_vi .. | .vadc_vvm .. | .vadc_vxm .. | .vadc_vim ..
  | .vsbc_vvm .. | .vsbc_vxm .. | .vsll_vv .. | .vsll_vx .. | .vsll_vi .. | .vsrl_vv .. | .vsrl_vx ..
  | .vsrl_vi .. | .vsra_vv .. | .vsra_vx .. | .vsra_vi .. | .vssrl_vv .. | .vssrl_vx .. | .vssrl_vi ..
  | .vssra_vv .. | .vssra_vx .. | .vssra_vi .. | .vnsrl_wv .. | .vnsrl_wx .. | .vnsrl_wi .. | .vnsra_wv ..
  | .vnsra_wx .. | .vnsra_wi .. | .vwredsumu_vs .. | .vwredsum_vs .. | .vredsum_vs .. | .vredand_vs ..
  | .vredor_vs .. | .vredxor_vs .. | .vredminu_vs .. | .vredmin_vs .. | .vredmaxu_vs .. | .vredmax_vs ..
  | .vaaddu_vv .. | .vaaddu_vx .. | .vaadd_vv .. | .vaadd_vx .. | .vasubu_vv .. | .vasubu_vx .. | .vasub_vv ..
  | .vasub_vx .. | .vslide1up_vx .. | .vslide1down_vx .. | .vzext_vf8 .. | .vsext_vf8 .. | .vzext_vf4 ..
  | .vsext_vf4 .. | .vzext_vf2 .. | .vsext_vf2 .. | .vdivu_vv .. | .vdivu_vx .. | .vdiv_vv .. | .vdiv_vx ..
  | .vremu_vv .. | .vremu_vx .. | .vrem_vv .. | .vrem_vx .. | .vmulhu_vv .. | .vmulhu_vx .. | .vmul_vv ..
  | .vmul_vx .. | .vmulhsu_vv .. | .vmulhsu_vx .. | .vmulh_vv .. | .vmulh_vx .. | .vmadd_vv .. | .vmadd_vx ..
  | .vnmsub_vv .. | .vnmsub_vx .. | .vmacc_vv .. | .vmacc_vx .. | .vnmsac_vv .. | .vnmsac_vx .. | .vwaddu_vv ..
  | .vwaddu_vx .. | .vwadd_vv .. | .vwadd_vx .. | .vwsubu_vv .. | .vwsubu_vx .. | .vwsub_vv .. | .vwsub_vx ..
  | .vwaddu_wv .. | .vwaddu_wx .. | .vwadd_wv .. | .vwadd_wx .. | .vwsubu_wv .. | .vwsubu_wx .. | .vwsub_wv ..
  | .vwsub_wx .. | .vwmulu_vv .. | .vwmulu_vx .. | .vwmulsu_vv .. | .vwmulsu_vx .. | .vwmul_vv .. | .vwmul_vx ..
  | .vwmaccu_vv .. | .vwmaccu_vx .. | .vwmacc_vv .. | .vwmacc_vx .. | .vwmaccus_vx .. | .vwmaccsu_vv ..
  | .vwmaccsu_vx .. =>
    {}
  | .vmadc_vvm vd _ _ | .vmadc_vxm vd _ _ | .vmadc_vim vd _ _ | .vmadc_vv vd _ _ | .vmadc_vx vd _ _
  | .vmadc_vi vd _ _ | .vmsbc_vvm vd _ _ | .vmsbc_vxm vd _ _ | .vmsbc_vv vd _ _ | .vmsbc_vx vd _ _
  | .vmseq_vv _ vd _ _ | .vmseq_vx _ vd _ _ | .vmseq_vi _ vd _ _ | .vmsne_vv _ vd _ _ | .vmsne_vx _ vd _ _
  | .vmsne_vi _ vd _ _ | .vmsltu_vv _ vd _ _ | .vmsltu_vx _ vd _ _ | .vmslt_vv _ vd _ _ | .vmslt_vx _ vd _ _
  | .vmsleu_vv _ vd _ _ | .vmsleu_vx _ vd _ _ | .vmsleu_vi _ vd _ _ | .vmsle_vv _ vd _ _ | .vmsle_vx _ vd _ _
  | .vmsle_vi _ vd _ _ | .vmsgtu_vx _ vd _ _ | .vmsgtu_vi _ vd _ _ | .vmsgt_vx _ vd _ _ | .vmsgt_vi _ vd _ _ =>
    { mask := some vd }
  | .vsaddu_vv .. | .vsaddu_vx .. | .vsaddu_vi .. | .vsadd_vv .. | .vsadd_vx .. | .vsadd_vi .. | .vssubu_vv ..
  | .vssubu_vx .. | .vssub_vv .. | .vssub_vx .. | .vsmul_vv .. | .vsmul_vx .. =>
    { sat := true }
  | .vnclipu_wv .. | .vnclipu_wx .. | .vnclipu_wi .. | .vnclip_wv .. | .vnclip_wx .. | .vnclip_wi .. =>
    { sat := c.nclipSaturates }
  | .vle8_v .. | .vlse8_v .. | .vluxei8_v .. | .vloxei8_v .. | .vle16_v .. | .vlse16_v .. | .vluxei16_v ..
  | .vloxei16_v .. | .vle32_v .. | .vlse32_v .. | .vluxei32_v .. | .vloxei32_v .. | .vle64_v .. | .vlse64_v ..
  | .vluxei64_v .. | .vloxei64_v .. | .vl1re8_v .. | .vl1re16_v .. | .vl1re32_v .. | .vl1re64_v ..
  | .vl2re8_v .. | .vl2re16_v .. | .vl2re32_v .. | .vl2re64_v .. | .vl4re8_v .. | .vl4re16_v .. | .vl4re32_v ..
  | .vl4re64_v .. | .vl8re8_v .. | .vl8re16_v .. | .vl8re32_v .. | .vl8re64_v .. | .vlm_v .. =>
    { call := true }
  | .vle8ff_v .. | .vle16ff_v .. | .vle32ff_v .. | .vle64ff_v .. =>
    { call := true, cut := true }
  | .vse8_v .. | .vsse8_v .. | .vsuxei8_v .. | .vsoxei8_v .. | .vse16_v .. | .vsse16_v .. | .vsuxei16_v ..
  | .vsoxei16_v .. | .vse32_v .. | .vsse32_v .. | .vsuxei32_v .. | .vsoxei32_v .. | .vse64_v .. | .vsse64_v ..
  | .vsuxei64_v .. | .vsoxei64_v .. | .vs1r_v .. | .vs2r_v .. | .vs4r_v .. | .vs8r_v .. | .vsm_v .. =>
    { call := true, store := true }

theorem vnclipu_sat {sat : Bool} {rm : RoundMode} {w : Nat} {b : BitVec (2 * w)} {a : BitVec w}
    (h : (nclipuElem sat rm w b a).2 = true) : sat = true := by
  cases sat with
  | true => rfl
  | false => cases h

theorem vnclip_sat {sat : Bool} {rm : RoundMode} {w : Nat} {b : BitVec (2 * w)} {a : BitVec w}
    (h : (nclipElem sat rm w b a).2 = true) : sat = true := by
  cases sat with
  | true => rfl
  | false => cases h

theorem vd_lt {vd a b : Nat} (h : (fits5 vd && fits5 a && fits5 b) = true) : vd < 32 := by
  simp only [Bool.and_eq_true, fits5, decide_eq_true_eq] at h
  exact h.1.1

theorem reg_lt {reg a : Nat} (h : (fits5 reg && fits5 a) = true) : reg < 32 := by
  simp only [Bool.and_eq_true, fits5, decide_eq_true_eq] at h
  exact h.1

theorem exec_outcomes {i : Instr} {s : State} (hw : i.wf = true) (hc : s.cfg.wf = true) :
    Outcomes (effects s.cfg i) s (exec i s) := by
  cases i with
  | vadd_vv _ _ _ _ => unfold exec effects; exact sameWidth_good (fun _ _ _ h => by cases h)
  | vadd_vx _ _ _ _ => unfold exec effects; exact sameWidth_good (fun _ _ _ h => by cases h)
  | vadd_vi _ _ _ _ => unfold exec effects; exact sameWidth_good (fun _ _ _ h => by cases h)
  | vsub_vv _ _ _ _ => unfold exec effects; exact sameWidth_good (fun _ _ _ h => by cases h)
  | vsub_vx _ _ _ _ => unfold exec effects; exact sameWidth_good (fun _ _ _ h => by cases h)
  | vrsub_vx _ _ _ _ => unfold exec effects; exact sameWidth_good (fun _ _ _ h => by cases h)
  | vrsub_vi _ _ _ _ => unfold exec effects; exact sameWidth_good (fun _ _ _ h => by cases h)
  | vminu_vv _ _ _ _ => unfold exec effects; exact sameWidth_good (fun _ _ _ h => by cases h)
  | vminu_vx _ _ _ _ => unfold exec effects; exact sameWidth_good (fun _ _ _ h => by cases h)
  | vmin_vv _ _ _ _ => unfold exec effects; exact sameWidth_good (fun _ _ _ h => by cases h)
  | vmin_vx _ _ _ _ => unfold exec effects; exact sameWidth_good (fun _ _ _ h => by cases h)
  | vmaxu_vv _ _ _ _ => unfold exec effects; exact sameWidth_good (fun _ _ _ h => by cases h)
  | vmaxu_vx _ _ _ _ => unfold exec effects; exact sameWidth_good (fun _ _ _ h => by cases h)
  | vmax_vv _ _ _ _ => unfold exec effects; exact sameWidth_good (fun _ _ _ h => by cases h)
  | vmax_vx _ _ _ _ => unfold exec effects; exact sameWidth_good (fun _ _ _ h => by cases h)
  | vand_vv _ _ _ _ => unfold exec effects; exact sameWidth_good (fun _ _ _ h => by cases h)
  | vand_vx _ _ _ _ => unfold exec effects; exact sameWidth_good (fun _ _ _ h => by cases h)
  | vand_vi _ _ _ _ => unfold exec effects; exact sameWidth_good (fun _ _ _ h => by cases h)
  | vor_vv _ _ _ _ => unfold exec effects; exact sameWidth_good (fun _ _ _ h => by cases h)
  | vor_vx _ _ _ _ => unfold exec effects; exact sameWidth_good (fun _ _ _ h => by cases h)
  | vor_vi _ _ _ _ => unfold exec effects; exact sameWidth_good (fun _ _ _ h => by cases h)
  | vxor_vv _ _ _ _ => unfold exec effects; exact sameWidth_good (fun _ _ _ h => by cases h)
  | vxor_vx _ _ _ _ => unfold exec effects; exact sameWidth_good (fun _ _ _ h => by cases h)
  | vxor_vi _ _ _ _ => unfold exec effects; exact sameWidth_good (fun _ _ _ h => by cases h)
  | vrgather_vv _ _ _ _ => unfold exec effects; exact gather_good
  | vrgather_vx _ _ _ _ => unfold exec effects; exact gather_good
  | vrgather_vi _ _ _ _ => unfold exec effects; exact gather_good
  | vslideup_vx _ _ _ _ => unfold exec effects; exact slideUp_good
  | vslideup_vi _ _ _ _ => unfold exec effects; exact slideUp_good
  | vslidedown_vx _ _ _ _ => unfold exec effects; exact slideDown_good
  | vslidedown_vi _ _ _ _ => unfold exec effects; exact slideDown_good
  | vadc_vvm _ _ _ => unfold exec effects; exact withCarry_good
  | vadc_vxm _ _ _ => unfold exec effects; exact withCarry_good
  | vadc_vim _ _ _ => unfold exec effects; exact withCarry_good
  | vmadc_vvm _ _ _ => unfold exec effects; exact carryOutIn_good (vd_lt hw) rfl
  | vmadc_vxm _ _ _ => unfold exec effects; exact carryOutIn_good (vd_lt hw) rfl
  | vmadc_vim _ _ _ => unfold exec effects; exact carryOutIn_good (vd_lt hw) rfl
  | vmadc_vv _ _ _ => unfold exec effects; exact carryOut_good (vd_lt hw) rfl
  | vmadc_vx _ _ _ => unfold exec effects; exact carryOut_good (vd_lt hw) rfl
  | vmadc_vi _ _ _ => unfold exec effects; exact carryOut_good (vd_lt hw) rfl
  | vsbc_vvm _ _ _ => unfold exec effects; exact withCarry_good
  | vsbc_vxm _ _ _ => unfold exec effects; exact withCarry_good
  | vmsbc_vvm _ _ _ => unfold exec effects; exact carryOutIn_good (vd_lt hw) rfl
  | vmsbc_vxm _ _ _ => unfold exec effects; exact carryOutIn_good (vd_lt hw) rfl
  | vmsbc_vv _ _ _ => unfold exec effects; exact carryOut_good (vd_lt hw) rfl
  | vmsbc_vx _ _ _ => unfold exec effects; exact carryOut_good (vd_lt hw) rfl
  | vmseq_vv _ _ _ _ => unfold exec effects; exact compare_good (vd_lt hw) rfl
  | vmseq_vx _ _ _ _ => unfold exec effects; exact compare_good (vd_lt hw) rfl
  | vmseq_vi _ _ _ _ => unfold exec effects; exact compare_good (vd_lt hw) rfl
  | vmsne_vv _ _ _ _ => unfold exec effects; exact compare_good (vd_lt hw) rfl
  | vmsne_vx _ _ _ _ => unfold exec effects; exact compare_good (vd_lt hw) rfl
  | vmsne_vi _ _ _ _ => unfold exec effects; exact compare_good (vd_lt hw) rfl
  | vmsltu_vv _ _ _ _ => unfold exec effects; exact compare_good (vd_lt hw) rfl
  | vmsltu_vx _ _ _ _ => unfold exec effects; exact compare_good (vd_lt hw) rfl
  | vmslt_vv _ _ _ _ => unfold exec effects; exact compare_good (vd_lt hw) rfl
  | vmslt_vx _ _ _ _ => unfold exec effects; exact compare_good (vd_lt hw) rfl
  | vmsleu_vv _ _ _ _ => unfold exec effects; exact compare_good (vd_lt hw) rfl
  | vmsleu_vx _ _ _ _ => unfold exec effects; exact compare_good (vd_lt hw) rfl
  | vmsleu_vi _ _ _ _ => unfold exec effects; exact compare_good (vd_lt hw) rfl
  | vmsle_vv _ _ _ _ => unfold exec effects; exact compare_good (vd_lt hw) rfl
  | vmsle_vx _ _ _ _ => unfold exec effects; exact compare_good (vd_lt hw) rfl
  | vmsle_vi _ _ _ _ => unfold exec effects; exact compare_good (vd_lt hw) rfl
  | vmsgtu_vx _ _ _ _ => unfold exec effects; exact compare_good (vd_lt hw) rfl
  | vmsgtu_vi _ _ _ _ => unfold exec effects; exact compare_good (vd_lt hw) rfl
  | vmsgt_vx _ _ _ _ => unfold exec effects; exact compare_good (vd_lt hw) rfl
  | vmsgt_vi _ _ _ _ => unfold exec effects; exact compare_good (vd_lt hw) rfl
  | vsaddu_vv _ _ _ _ => unfold exec effects; exact sameWidth_good (fun _ _ _ _ => rfl)
  | vsaddu_vx _ _ _ _ => unfold exec effects; exact sameWidth_good (fun _ _ _ _ => rfl)
  | vsaddu_vi _ _ _ _ => unfold exec effects; exact sameWidth_good (fun _ _ _ _ => rfl)
  | vsadd_vv _ _ _ _ => unfold exec effects; exact sameWidth_good (fun _ _ _ _ => rfl)
  | vsadd_vx _ _ _ _ => unfold exec effects; exact sameWidth_good (fun _ _ _ _ => rfl)
  | vsadd_vi _ _ _ _ => unfold exec effects; exact sameWidth_good (fun _ _ _ _ => rfl)
  | vssubu_vv _ _ _ _ => unfold exec effects; exact sameWidth_good (fun _ _ _ _ => rfl)
  | vssubu_vx _ _ _ _ => unfold exec effects; exact sameWidth_good (fun _ _ _ _ => rfl)
  | vssub_vv _ _ _ _ => unfold exec effects; exact sameWidth_good (fun _ _ _ _ => rfl)
  | vssub_vx _ _ _ _ => unfold exec effects; exact sameWidth_good (fun _ _ _ _ => rfl)
  | vsll_vv _ _ _ _ => unfold exec effects; exact sameWidth_good (fun _ _ _ h => by cases h)
  | vsll_vx _ _ _ _ => unfold exec effects; exact sameWidth_good (fun _ _ _ h => by cases h)
  | vsll_vi _ _ _ _ => unfold exec effects; exact sameWidth_good (fun _ _ _ h => by cases h)
  | vsmul_vv _ _ _ _ => unfold exec effects; exact sameWidth_good (fun _ _ _ _ => rfl)
  | vsmul_vx _ _ _ _ => unfold exec effects; exact sameWidth_good (fun _ _ _ _ => rfl)
  | vsrl_vv _ _ _ _ => unfold exec effects; exact sameWidth_good (fun _ _ _ h => by cases h)
  | vsrl_vx _ _ _ _ => unfold exec effects; exact sameWidth_good (fun _ _ _ h => by cases h)
  | vsrl_vi _ _ _ _ => unfold exec effects; exact sameWidth_good (fun _ _ _ h => by cases h)
  | vsra_vv _ _ _ _ => unfold exec effects; exact sameWidth_good (fun _ _ _ h => by cases h)
  | vsra_vx _ _ _ _ => unfold exec effects; exact sameWidth_good (fun _ _ _ h => by cases h)
  | vsra_vi _ _ _ _ => unfold exec effects; exact sameWidth_good (fun _ _ _ h => by cases h)
  | vssrl_vv _ _ _ _ => unfold exec effects; exact sameWidth_good (fun _ _ _ h => by cases h)
  | vssrl_vx _ _ _ _ => unfold exec effects; exact sameWidth_good (fun _ _ _ h => by cases h)
  | vssrl_vi _ _ _ _ => unfold exec effects; exact sameWidth_good (fun _ _ _ h => by cases h)
  | vssra_vv _ _ _ _ => unfold exec effects; exact sameWidth_good (fun _ _ _ h => by cases h)
  | vssra_vx _ _ _ _ => unfold exec effects; exact sameWidth_good (fun _ _ _ h => by cases h)
  | vssra_vi _ _ _ _ => unfold exec effects; exact sameWidth_good (fun _ _ _ h => by cases h)
  | vnsrl_wv _ _ _ _ => unfold exec effects; exact narrowing_good (fun _ _ _ h => by cases h)
  | vnsrl_wx _ _ _ _ => unfold exec effects; exact narrowing_good (fun _ _ _ h => by cases h)
  | vnsrl_wi _ _ _ _ => unfold exec effects; exact narrowing_good (fun _ _ _ h => by cases h)
  | vnsra_wv _ _ _ _ => unfold exec effects; exact narrowing_good (fun _ _ _ h => by cases h)
  | vnsra_wx _ _ _ _ => unfold exec effects; exact narrowing_good (fun _ _ _ h => by cases h)
  | vnsra_wi _ _ _ _ => unfold exec effects; exact narrowing_good (fun _ _ _ h => by cases h)
  | vnclipu_wv _ _ _ _ => unfold exec effects; exact narrowing_good (fun _ _ _ h => vnclipu_sat h)
  | vnclipu_wx _ _ _ _ => unfold exec effects; exact narrowing_good (fun _ _ _ h => vnclipu_sat h)
  | vnclipu_wi _ _ _ _ => unfold exec effects; exact narrowing_good (fun _ _ _ h => vnclipu_sat h)
  | vnclip_wv _ _ _ _ => unfold exec effects; exact narrowing_good (fun _ _ _ h => vnclip_sat h)
  | vnclip_wx _ _ _ _ => unfold exec effects; exact narrowing_good (fun _ _ _ h => vnclip_sat h)
  | vnclip_wi _ _ _ _ => unfold exec effects; exact narrowing_good (fun _ _ _ h => vnclip_sat h)
  | vwredsumu_vs _ _ _ _ => unfold exec effects; exact reduceWide_good hc
  | vwredsum_vs _ _ _ _ => unfold exec effects; exact reduceWide_good hc
  | vredsum_vs _ _ _ _ => unfold exec effects; exact reduce_good hc
  | vredand_vs _ _ _ _ => unfold exec effects; exact reduce_good hc
  | vredor_vs _ _ _ _ => unfold exec effects; exact reduce_good hc
  | vredxor_vs _ _ _ _ => unfold exec effects; exact reduce_good hc
  | vredminu_vs _ _ _ _ => unfold exec effects; exact reduce_good hc
  | vredmin_vs _ _ _ _ => unfold exec effects; exact reduce_good hc
  | vredmaxu_vs _ _ _ _ => unfold exec effects; exact reduce_good hc
  | vredmax_vs _ _ _ _ => unfold exec effects; exact reduce_good hc
  | vaaddu_vv _ _ _ _ => unfold exec effects; exact sameWidth_good (fun _ _ _ h => by cases h)
  | vaaddu_vx _ _ _ _ => unfold exec effects; exact sameWidth_good (fun _ _ _ h => by cases h)
  | vaadd_vv _ _ _ _ => unfold exec effects; exact sameWidth_good (fun _ _ _ h => by cases h)
  | vaadd_vx _ _ _ _ => unfold exec effects; exact sameWidth_good (fun _ _ _ h => by cases h)
  | vasubu_vv _ _ _ _ => unfold exec effects; exact sameWidth_good (fun _ _ _ h => by cases h)
  | vasubu_vx _ _ _ _ => unfold exec effects; exact sameWidth_good (fun _ _ _ h => by cases h)
  | vasub_vv _ _ _ _ => unfold exec effects; exact sameWidth_good (fun _ _ _ h => by cases h)
  | vasub_vx _ _ _ _ => unfold exec effects; exact sameWidth_good (fun _ _ _ h => by cases h)
  | vslide1up_vx _ _ _ _ => unfold exec effects; exact slideOneUp_good
  | vslide1down_vx _ _ _ _ => unfold exec effects; exact slideOneDown_good
  | vzext_vf8 _ _ _ => unfold exec effects; exact extension_good (by omega)
  | vsext_vf8 _ _ _ => unfold exec effects; exact extension_good (by omega)
  | vzext_vf4 _ _ _ => unfold exec effects; exact extension_good (by omega)
  | vsext_vf4 _ _ _ => unfold exec effects; exact extension_good (by omega)
  | vzext_vf2 _ _ _ => unfold exec effects; exact extension_good (by omega)
  | vsext_vf2 _ _ _ => unfold exec effects; exact extension_good (by omega)
  | vdivu_vv _ _ _ _ => unfold exec effects; exact sameWidth_good (fun _ _ _ h => by cases h)
  | vdivu_vx _ _ _ _ => unfold exec effects; exact sameWidth_good (fun _ _ _ h => by cases h)
  | vdiv_vv _ _ _ _ => unfold exec effects; exact sameWidth_good (fun _ _ _ h => by cases h)
  | vdiv_vx _ _ _ _ => unfold exec effects; exact sameWidth_good (fun _ _ _ h => by cases h)
  | vremu_vv _ _ _ _ => unfold exec effects; exact sameWidth_good (fun _ _ _ h => by cases h)
  | vremu_vx _ _ _ _ => unfold exec effects; exact sameWidth_good (fun _ _ _ h => by cases h)
  | vrem_vv _ _ _ _ => unfold exec effects; exact sameWidth_good (fun _ _ _ h => by cases h)
  | vrem_vx _ _ _ _ => unfold exec effects; exact sameWidth_good (fun _ _ _ h => by cases h)
  | vmulhu_vv _ _ _ _ => unfold exec effects; exact sameWidth_good (fun _ _ _ h => by cases h)
  | vmulhu_vx _ _ _ _ => unfold exec effects; exact sameWidth_good (fun _ _ _ h => by cases h)
  | vmul_vv _ _ _ _ => unfold exec effects; exact sameWidth_good (fun _ _ _ h => by cases h)
  | vmul_vx _ _ _ _ => unfold exec effects; exact sameWidth_good (fun _ _ _ h => by cases h)
  | vmulhsu_vv _ _ _ _ => unfold exec effects; exact sameWidth_good (fun _ _ _ h => by cases h)
  | vmulhsu_vx _ _ _ _ => unfold exec effects; exact sameWidth_good (fun _ _ _ h => by cases h)
  | vmulh_vv _ _ _ _ => unfold exec effects; exact sameWidth_good (fun _ _ _ h => by cases h)
  | vmulh_vx _ _ _ _ => unfold exec effects; exact sameWidth_good (fun _ _ _ h => by cases h)
  | vmadd_vv _ _ _ _ => unfold exec effects; exact multiplyAdd_good
  | vmadd_vx _ _ _ _ => unfold exec effects; exact multiplyAdd_good
  | vnmsub_vv _ _ _ _ => unfold exec effects; exact multiplyAdd_good
  | vnmsub_vx _ _ _ _ => unfold exec effects; exact multiplyAdd_good
  | vmacc_vv _ _ _ _ => unfold exec effects; exact multiplyAdd_good
  | vmacc_vx _ _ _ _ => unfold exec effects; exact multiplyAdd_good
  | vnmsac_vv _ _ _ _ => unfold exec effects; exact multiplyAdd_good
  | vnmsac_vx _ _ _ _ => unfold exec effects; exact multiplyAdd_good
  | vwaddu_vv _ _ _ _ => unfold exec effects; exact widening_good
  | vwaddu_vx _ _ _ _ => unfold exec effects; exact widening_good
  | vwadd_vv _ _ _ _ => unfold exec effects; exact widening_good
  | vwadd_vx _ _ _ _ => unfold exec effects; exact widening_good
  | vwsubu_vv _ _ _ _ => unfold exec effects; exact widening_good
  | vwsubu_vx _ _ _ _ => unfold exec effects; exact widening_good
  | vwsub_vv _ _ _ _ => unfold exec effects; exact widening_good
  | vwsub_vx _ _ _ _ => unfold exec effects; exact widening_good
  | vwaddu_wv _ _ _ _ => unfold exec effects; exact wideningWide_good
  | vwaddu_wx _ _ _ _ => unfold exec effects; exact wideningWide_good
  | vwadd_wv _ _ _ _ => unfold exec effects; exact wideningWide_good
  | vwadd_wx _ _ _ _ => unfold exec effects; exact wideningWide_good
  | vwsubu_wv _ _ _ _ => unfold exec effects; exact wideningWide_good
  | vwsubu_wx _ _ _ _ => unfold exec effects; exact wideningWide_good
  | vwsub_wv _ _ _ _ => unfold exec effects; exact wideningWide_good
  | vwsub_wx _ _ _ _ => unfold exec effects; exact wideningWide_good
  | vwmulu_vv _ _ _ _ => unfold exec effects; exact widening_good
  | vwmulu_vx _ _ _ _ => unfold exec effects; exact widening_good
  | vwmulsu_vv _ _ _ _ => unfold exec effects; exact widening_good
  | vwmulsu_vx _ _ _ _ => unfold exec effects; exact widening_good
  | vwmul_vv _ _ _ _ => unfold exec effects; exact widening_good
  | vwmul_vx _ _ _ _ => unfold exec effects; exact widening_good
  | vwmaccu_vv _ _ _ _ => unfold exec effects; exact wideningMultiplyAdd_good
  | vwmaccu_vx _ _ _ _ => unfold exec effects; exact wideningMultiplyAdd_good
  | vwmacc_vv _ _ _ _ => unfold exec effects; exact wideningMultiplyAdd_good
  | vwmacc_vx _ _ _ _ => unfold exec effects; exact wideningMultiplyAdd_good
  | vwmaccus_vx _ _ _ _ => unfold exec effects; exact wideningMultiplyAdd_good
  | vwmaccsu_vv _ _ _ _ => unfold exec effects; exact wideningMultiplyAdd_good
  | vwmaccsu_vx _ _ _ _ => unfold exec effects; exact wideningMultiplyAdd_good
  | vle8_v _ _ _ _ => unfold exec effects; exact unitLoad_good rfl rfl
  | vle8ff_v _ _ _ _ => unfold exec effects; exact firstFaultLoad_good rfl rfl rfl
  | vlse8_v _ _ _ _ _ => unfold exec effects; exact stridedLoad_good rfl rfl
  | vluxei8_v _ _ _ _ _ => unfold exec effects; exact indexedLoad_good rfl rfl
  | vloxei8_v _ _ _ _ _ => unfold exec effects; exact indexedLoad_good rfl rfl
  | vse8_v _ _ _ _ => unfold exec effects; exact unitStore_good rfl rfl
  | vsse8_v _ _ _ _ _ => unfold exec effects; exact stridedStore_good rfl rfl
  | vsuxei8_v _ _ _ _ _ => unfold exec effects; exact indexedStore_good rfl rfl
  | vsoxei8_v _ _ _ _ _ => unfold exec effects; exact indexedStore_good rfl rfl
  | vle16_v _ _ _ _ => unfold exec effects; exact unitLoad_good rfl rfl
  | vle16ff_v _ _ _ _ => unfold exec effects; exact firstFaultLoad_good rfl rfl rfl
  | vlse16_v _ _ _ _ _ => unfold exec effects; exact stridedLoad_good rfl rfl
  | vluxei16_v _ _ _ _ _ => unfold exec effects; exact indexedLoad_good rfl rfl
  | vloxei16_v _ _ _ _ _ => unfold exec effects; exact indexedLoad_good rfl rfl
  | vse16_v _ _ _ _ => unfold exec effects; exact unitStore_good rfl rfl
  | vsse16_v _ _ _ _ _ => unfold exec effects; exact stridedStore_good rfl rfl
  | vsuxei16_v _ _ _ _ _ => unfold exec effects; exact indexedStore_good rfl rfl
  | vsoxei16_v _ _ _ _ _ => unfold exec effects; exact indexedStore_good rfl rfl
  | vle32_v _ _ _ _ => unfold exec effects; exact unitLoad_good rfl rfl
  | vle32ff_v _ _ _ _ => unfold exec effects; exact firstFaultLoad_good rfl rfl rfl
  | vlse32_v _ _ _ _ _ => unfold exec effects; exact stridedLoad_good rfl rfl
  | vluxei32_v _ _ _ _ _ => unfold exec effects; exact indexedLoad_good rfl rfl
  | vloxei32_v _ _ _ _ _ => unfold exec effects; exact indexedLoad_good rfl rfl
  | vse32_v _ _ _ _ => unfold exec effects; exact unitStore_good rfl rfl
  | vsse32_v _ _ _ _ _ => unfold exec effects; exact stridedStore_good rfl rfl
  | vsuxei32_v _ _ _ _ _ => unfold exec effects; exact indexedStore_good rfl rfl
  | vsoxei32_v _ _ _ _ _ => unfold exec effects; exact indexedStore_good rfl rfl
  | vle64_v _ _ _ _ => unfold exec effects; exact unitLoad_good rfl rfl
  | vle64ff_v _ _ _ _ => unfold exec effects; exact firstFaultLoad_good rfl rfl rfl
  | vlse64_v _ _ _ _ _ => unfold exec effects; exact stridedLoad_good rfl rfl
  | vluxei64_v _ _ _ _ _ => unfold exec effects; exact indexedLoad_good rfl rfl
  | vloxei64_v _ _ _ _ _ => unfold exec effects; exact indexedLoad_good rfl rfl
  | vse64_v _ _ _ _ => unfold exec effects; exact unitStore_good rfl rfl
  | vsse64_v _ _ _ _ _ => unfold exec effects; exact stridedStore_good rfl rfl
  | vsuxei64_v _ _ _ _ _ => unfold exec effects; exact indexedStore_good rfl rfl
  | vsoxei64_v _ _ _ _ _ => unfold exec effects; exact indexedStore_good rfl rfl
  | vl1re8_v _ _ => unfold exec effects; exact wholeLoad_good (by omega) rfl rfl
  | vl1re16_v _ _ => unfold exec effects; exact wholeLoad_good (by omega) rfl rfl
  | vl1re32_v _ _ => unfold exec effects; exact wholeLoad_good (by omega) rfl rfl
  | vl1re64_v _ _ => unfold exec effects; exact wholeLoad_good (by omega) rfl rfl
  | vs1r_v _ _ => unfold exec effects; exact wholeStore_good (by omega) rfl rfl
  | vl2re8_v _ _ => unfold exec effects; exact wholeLoad_good (by omega) rfl rfl
  | vl2re16_v _ _ => unfold exec effects; exact wholeLoad_good (by omega) rfl rfl
  | vl2re32_v _ _ => unfold exec effects; exact wholeLoad_good (by omega) rfl rfl
  | vl2re64_v _ _ => unfold exec effects; exact wholeLoad_good (by omega) rfl rfl
  | vs2r_v _ _ => unfold exec effects; exact wholeStore_good (by omega) rfl rfl
  | vl4re8_v _ _ => unfold exec effects; exact wholeLoad_good (by omega) rfl rfl
  | vl4re16_v _ _ => unfold exec effects; exact wholeLoad_good (by omega) rfl rfl
  | vl4re32_v _ _ => unfold exec effects; exact wholeLoad_good (by omega) rfl rfl
  | vl4re64_v _ _ => unfold exec effects; exact wholeLoad_good (by omega) rfl rfl
  | vs4r_v _ _ => unfold exec effects; exact wholeStore_good (by omega) rfl rfl
  | vl8re8_v _ _ => unfold exec effects; exact wholeLoad_good (by omega) rfl rfl
  | vl8re16_v _ _ => unfold exec effects; exact wholeLoad_good (by omega) rfl rfl
  | vl8re32_v _ _ => unfold exec effects; exact wholeLoad_good (by omega) rfl rfl
  | vl8re64_v _ _ => unfold exec effects; exact wholeLoad_good (by omega) rfl rfl
  | vs8r_v _ _ => unfold exec effects; exact wholeStore_good (by omega) rfl rfl
  | vlm_v _ _ => unfold exec effects; exact maskLoad_good (reg_lt hw) rfl rfl
  | vsm_v _ _ => unfold exec effects; exact maskStore_good (reg_lt hw) rfl rfl

end Sys2Proof.Reference
end

