-- ==== Sys2Proof/Laws/PerInstr.lean ====
section
/-! SUPPORT. One lemma per instruction: the decoder reads a well-formed instruction back from its fields. -/

namespace Sys2Proof.Laws.FieldsDecode

/-- The field decoder gives the instruction whose fields it is handed. -/
def Statement (i : Instr) : Prop := i.wf = true → decodeFields i.fields = .instr i

theorem vadd_vv (vm : Bool) (vd vs2 vs1 : Nat) : Statement (.vadd_vv vm vd vs2 vs1) := by
  intro _; delta Instr.fields; simp only; rfl
theorem vadd_vx (vm : Bool) (vd vs2 rs1 : Nat) : Statement (.vadd_vx vm vd vs2 rs1) := by
  intro _; delta Instr.fields; simp only; rfl
theorem vadd_vi (vm : Bool) (vd vs2 imm5 : Nat) : Statement (.vadd_vi vm vd vs2 imm5) := by
  intro _; delta Instr.fields; simp only; rfl
theorem vsub_vv (vm : Bool) (vd vs2 vs1 : Nat) : Statement (.vsub_vv vm vd vs2 vs1) := by
  intro _; delta Instr.fields; simp only; rfl
theorem vsub_vx (vm : Bool) (vd vs2 rs1 : Nat) : Statement (.vsub_vx vm vd vs2 rs1) := by
  intro _; delta Instr.fields; simp only; rfl
theorem vrsub_vx (vm : Bool) (vd vs2 rs1 : Nat) : Statement (.vrsub_vx vm vd vs2 rs1) := by
  intro _; delta Instr.fields; simp only; rfl
theorem vrsub_vi (vm : Bool) (vd vs2 imm5 : Nat) : Statement (.vrsub_vi vm vd vs2 imm5) := by
  intro _; delta Instr.fields; simp only; rfl
theorem vminu_vv (vm : Bool) (vd vs2 vs1 : Nat) : Statement (.vminu_vv vm vd vs2 vs1) := by
  intro _; delta Instr.fields; simp only; rfl
theorem vminu_vx (vm : Bool) (vd vs2 rs1 : Nat) : Statement (.vminu_vx vm vd vs2 rs1) := by
  intro _; delta Instr.fields; simp only; rfl
theorem vmin_vv (vm : Bool) (vd vs2 vs1 : Nat) : Statement (.vmin_vv vm vd vs2 vs1) := by
  intro _; delta Instr.fields; simp only; rfl
theorem vmin_vx (vm : Bool) (vd vs2 rs1 : Nat) : Statement (.vmin_vx vm vd vs2 rs1) := by
  intro _; delta Instr.fields; simp only; rfl
theorem vmaxu_vv (vm : Bool) (vd vs2 vs1 : Nat) : Statement (.vmaxu_vv vm vd vs2 vs1) := by
  intro _; delta Instr.fields; simp only; rfl
theorem vmaxu_vx (vm : Bool) (vd vs2 rs1 : Nat) : Statement (.vmaxu_vx vm vd vs2 rs1) := by
  intro _; delta Instr.fields; simp only; rfl
theorem vmax_vv (vm : Bool) (vd vs2 vs1 : Nat) : Statement (.vmax_vv vm vd vs2 vs1) := by
  intro _; delta Instr.fields; simp only; rfl
theorem vmax_vx (vm : Bool) (vd vs2 rs1 : Nat) : Statement (.vmax_vx vm vd vs2 rs1) := by
  intro _; delta Instr.fields; simp only; rfl
theorem vand_vv (vm : Bool) (vd vs2 vs1 : Nat) : Statement (.vand_vv vm vd vs2 vs1) := by
  intro _; delta Instr.fields; simp only; rfl
theorem vand_vx (vm : Bool) (vd vs2 rs1 : Nat) : Statement (.vand_vx vm vd vs2 rs1) := by
  intro _; delta Instr.fields; simp only; rfl
theorem vand_vi (vm : Bool) (vd vs2 imm5 : Nat) : Statement (.vand_vi vm vd vs2 imm5) := by
  intro _; delta Instr.fields; simp only; rfl
theorem vor_vv (vm : Bool) (vd vs2 vs1 : Nat) : Statement (.vor_vv vm vd vs2 vs1) := by
  intro _; delta Instr.fields; simp only; rfl
theorem vor_vx (vm : Bool) (vd vs2 rs1 : Nat) : Statement (.vor_vx vm vd vs2 rs1) := by
  intro _; delta Instr.fields; simp only; rfl
theorem vor_vi (vm : Bool) (vd vs2 imm5 : Nat) : Statement (.vor_vi vm vd vs2 imm5) := by
  intro _; delta Instr.fields; simp only; rfl
theorem vxor_vv (vm : Bool) (vd vs2 vs1 : Nat) : Statement (.vxor_vv vm vd vs2 vs1) := by
  intro _; delta Instr.fields; simp only; rfl
theorem vxor_vx (vm : Bool) (vd vs2 rs1 : Nat) : Statement (.vxor_vx vm vd vs2 rs1) := by
  intro _; delta Instr.fields; simp only; rfl
theorem vxor_vi (vm : Bool) (vd vs2 imm5 : Nat) : Statement (.vxor_vi vm vd vs2 imm5) := by
  intro _; delta Instr.fields; simp only; rfl
theorem vrgather_vv (vm : Bool) (vd vs2 vs1 : Nat) : Statement (.vrgather_vv vm vd vs2 vs1) := by
  intro _; delta Instr.fields; simp only; rfl
theorem vrgather_vx (vm : Bool) (vd vs2 rs1 : Nat) : Statement (.vrgather_vx vm vd vs2 rs1) := by
  intro _; delta Instr.fields; simp only; rfl
theorem vrgather_vi (vm : Bool) (vd vs2 imm5 : Nat) : Statement (.vrgather_vi vm vd vs2 imm5) := by
  intro _; delta Instr.fields; simp only; rfl
theorem vslideup_vx (vm : Bool) (vd vs2 rs1 : Nat) : Statement (.vslideup_vx vm vd vs2 rs1) := by
  intro _; delta Instr.fields; simp only; rfl
theorem vslideup_vi (vm : Bool) (vd vs2 imm5 : Nat) : Statement (.vslideup_vi vm vd vs2 imm5) := by
  intro _; delta Instr.fields; simp only; rfl
theorem vslidedown_vx (vm : Bool) (vd vs2 rs1 : Nat) : Statement (.vslidedown_vx vm vd vs2 rs1) := by
  intro _; delta Instr.fields; simp only; rfl
theorem vslidedown_vi (vm : Bool) (vd vs2 imm5 : Nat) : Statement (.vslidedown_vi vm vd vs2 imm5) := by
  intro _; delta Instr.fields; simp only; rfl
theorem vadc_vvm (vd vs2 vs1 : Nat) : Statement (.vadc_vvm vd vs2 vs1) := by
  intro _; delta Instr.fields; simp only; rfl
theorem vadc_vxm (vd vs2 rs1 : Nat) : Statement (.vadc_vxm vd vs2 rs1) := by
  intro _; delta Instr.fields; simp only; rfl
theorem vadc_vim (vd vs2 imm5 : Nat) : Statement (.vadc_vim vd vs2 imm5) := by
  intro _; delta Instr.fields; simp only; rfl
theorem vmadc_vvm (vd vs2 vs1 : Nat) : Statement (.vmadc_vvm vd vs2 vs1) := by
  intro _; delta Instr.fields; simp only; rfl
theorem vmadc_vxm (vd vs2 rs1 : Nat) : Statement (.vmadc_vxm vd vs2 rs1) := by
  intro _; delta Instr.fields; simp only; rfl
theorem vmadc_vim (vd vs2 imm5 : Nat) : Statement (.vmadc_vim vd vs2 imm5) := by
  intro _; delta Instr.fields; simp only; rfl
theorem vmadc_vv (vd vs2 vs1 : Nat) : Statement (.vmadc_vv vd vs2 vs1) := by
  intro _; delta Instr.fields; simp only; rfl
theorem vmadc_vx (vd vs2 rs1 : Nat) : Statement (.vmadc_vx vd vs2 rs1) := by
  intro _; delta Instr.fields; simp only; rfl
theorem vmadc_vi (vd vs2 imm5 : Nat) : Statement (.vmadc_vi vd vs2 imm5) := by
  intro _; delta Instr.fields; simp only; rfl
theorem vsbc_vvm (vd vs2 vs1 : Nat) : Statement (.vsbc_vvm vd vs2 vs1) := by
  intro _; delta Instr.fields; simp only; rfl
theorem vsbc_vxm (vd vs2 rs1 : Nat) : Statement (.vsbc_vxm vd vs2 rs1) := by
  intro _; delta Instr.fields; simp only; rfl
theorem vmsbc_vvm (vd vs2 vs1 : Nat) : Statement (.vmsbc_vvm vd vs2 vs1) := by
  intro _; delta Instr.fields; simp only; rfl
theorem vmsbc_vxm (vd vs2 rs1 : Nat) : Statement (.vmsbc_vxm vd vs2 rs1) := by
  intro _; delta Instr.fields; simp only; rfl
theorem vmsbc_vv (vd vs2 vs1 : Nat) : Statement (.vmsbc_vv vd vs2 vs1) := by
  intro _; delta Instr.fields; simp only; rfl
theorem vmsbc_vx (vd vs2 rs1 : Nat) : Statement (.vmsbc_vx vd vs2 rs1) := by
  intro _; delta Instr.fields; simp only; rfl
theorem vmseq_vv (vm : Bool) (vd vs2 vs1 : Nat) : Statement (.vmseq_vv vm vd vs2 vs1) := by
  intro _; delta Instr.fields; simp only; rfl
theorem vmseq_vx (vm : Bool) (vd vs2 rs1 : Nat) : Statement (.vmseq_vx vm vd vs2 rs1) := by
  intro _; delta Instr.fields; simp only; rfl
theorem vmseq_vi (vm : Bool) (vd vs2 imm5 : Nat) : Statement (.vmseq_vi vm vd vs2 imm5) := by
  intro _; delta Instr.fields; simp only; rfl
theorem vmsne_vv (vm : Bool) (vd vs2 vs1 : Nat) : Statement (.vmsne_vv vm vd vs2 vs1) := by
  intro _; delta Instr.fields; simp only; rfl
theorem vmsne_vx (vm : Bool) (vd vs2 rs1 : Nat) : Statement (.vmsne_vx vm vd vs2 rs1) := by
  intro _; delta Instr.fields; simp only; rfl
theorem vmsne_vi (vm : Bool) (vd vs2 imm5 : Nat) : Statement (.vmsne_vi vm vd vs2 imm5) := by
  intro _; delta Instr.fields; simp only; rfl
theorem vmsltu_vv (vm : Bool) (vd vs2 vs1 : Nat) : Statement (.vmsltu_vv vm vd vs2 vs1) := by
  intro _; delta Instr.fields; simp only; rfl
theorem vmsltu_vx (vm : Bool) (vd vs2 rs1 : Nat) : Statement (.vmsltu_vx vm vd vs2 rs1) := by
  intro _; delta Instr.fields; simp only; rfl
theorem vmslt_vv (vm : Bool) (vd vs2 vs1 : Nat) : Statement (.vmslt_vv vm vd vs2 vs1) := by
  intro _; delta Instr.fields; simp only; rfl
theorem vmslt_vx (vm : Bool) (vd vs2 rs1 : Nat) : Statement (.vmslt_vx vm vd vs2 rs1) := by
  intro _; delta Instr.fields; simp only; rfl
theorem vmsleu_vv (vm : Bool) (vd vs2 vs1 : Nat) : Statement (.vmsleu_vv vm vd vs2 vs1) := by
  intro _; delta Instr.fields; simp only; rfl
theorem vmsleu_vx (vm : Bool) (vd vs2 rs1 : Nat) : Statement (.vmsleu_vx vm vd vs2 rs1) := by
  intro _; delta Instr.fields; simp only; rfl
theorem vmsleu_vi (vm : Bool) (vd vs2 imm5 : Nat) : Statement (.vmsleu_vi vm vd vs2 imm5) := by
  intro _; delta Instr.fields; simp only; rfl
theorem vmsle_vv (vm : Bool) (vd vs2 vs1 : Nat) : Statement (.vmsle_vv vm vd vs2 vs1) := by
  intro _; delta Instr.fields; simp only; rfl
theorem vmsle_vx (vm : Bool) (vd vs2 rs1 : Nat) : Statement (.vmsle_vx vm vd vs2 rs1) := by
  intro _; delta Instr.fields; simp only; rfl
theorem vmsle_vi (vm : Bool) (vd vs2 imm5 : Nat) : Statement (.vmsle_vi vm vd vs2 imm5) := by
  intro _; delta Instr.fields; simp only; rfl
theorem vmsgtu_vx (vm : Bool) (vd vs2 rs1 : Nat) : Statement (.vmsgtu_vx vm vd vs2 rs1) := by
  intro _; delta Instr.fields; simp only; rfl
theorem vmsgtu_vi (vm : Bool) (vd vs2 imm5 : Nat) : Statement (.vmsgtu_vi vm vd vs2 imm5) := by
  intro _; delta Instr.fields; simp only; rfl
theorem vmsgt_vx (vm : Bool) (vd vs2 rs1 : Nat) : Statement (.vmsgt_vx vm vd vs2 rs1) := by
  intro _; delta Instr.fields; simp only; rfl
theorem vmsgt_vi (vm : Bool) (vd vs2 imm5 : Nat) : Statement (.vmsgt_vi vm vd vs2 imm5) := by
  intro _; delta Instr.fields; simp only; rfl
theorem vsaddu_vv (vm : Bool) (vd vs2 vs1 : Nat) : Statement (.vsaddu_vv vm vd vs2 vs1) := by
  intro _; delta Instr.fields; simp only; rfl
theorem vsaddu_vx (vm : Bool) (vd vs2 rs1 : Nat) : Statement (.vsaddu_vx vm vd vs2 rs1) := by
  intro _; delta Instr.fields; simp only; rfl
theorem vsaddu_vi (vm : Bool) (vd vs2 imm5 : Nat) : Statement (.vsaddu_vi vm vd vs2 imm5) := by
  intro _; delta Instr.fields; simp only; rfl
theorem vsadd_vv (vm : Bool) (vd vs2 vs1 : Nat) : Statement (.vsadd_vv vm vd vs2 vs1) := by
  intro _; delta Instr.fields; simp only; rfl
theorem vsadd_vx (vm : Bool) (vd vs2 rs1 : Nat) : Statement (.vsadd_vx vm vd vs2 rs1) := by
  intro _; delta Instr.fields; simp only; rfl
theorem vsadd_vi (vm : Bool) (vd vs2 imm5 : Nat) : Statement (.vsadd_vi vm vd vs2 imm5) := by
  intro _; delta Instr.fields; simp only; rfl
theorem vssubu_vv (vm : Bool) (vd vs2 vs1 : Nat) : Statement (.vssubu_vv vm vd vs2 vs1) := by
  intro _; delta Instr.fields; simp only; rfl
theorem vssubu_vx (vm : Bool) (vd vs2 rs1 : Nat) : Statement (.vssubu_vx vm vd vs2 rs1) := by
  intro _; delta Instr.fields; simp only; rfl
theorem vssub_vv (vm : Bool) (vd vs2 vs1 : Nat) : Statement (.vssub_vv vm vd vs2 vs1) := by
  intro _; delta Instr.fields; simp only; rfl
theorem vssub_vx (vm : Bool) (vd vs2 rs1 : Nat) : Statement (.vssub_vx vm vd vs2 rs1) := by
  intro _; delta Instr.fields; simp only; rfl
theorem vsll_vv (vm : Bool) (vd vs2 vs1 : Nat) : Statement (.vsll_vv vm vd vs2 vs1) := by
  intro _; delta Instr.fields; simp only; rfl
theorem vsll_vx (vm : Bool) (vd vs2 rs1 : Nat) : Statement (.vsll_vx vm vd vs2 rs1) := by
  intro _; delta Instr.fields; simp only; rfl
theorem vsll_vi (vm : Bool) (vd vs2 imm5 : Nat) : Statement (.vsll_vi vm vd vs2 imm5) := by
  intro _; delta Instr.fields; simp only; rfl
theorem vsmul_vv (vm : Bool) (vd vs2 vs1 : Nat) : Statement (.vsmul_vv vm vd vs2 vs1) := by
  intro _; delta Instr.fields; simp only; rfl
theorem vsmul_vx (vm : Bool) (vd vs2 rs1 : Nat) : Statement (.vsmul_vx vm vd vs2 rs1) := by
  intro _; delta Instr.fields; simp only; rfl
theorem vsrl_vv (vm : Bool) (vd vs2 vs1 : Nat) : Statement (.vsrl_vv vm vd vs2 vs1) := by
  intro _; delta Instr.fields; simp only; rfl
theorem vsrl_vx (vm : Bool) (vd vs2 rs1 : Nat) : Statement (.vsrl_vx vm vd vs2 rs1) := by
  intro _; delta Instr.fields; simp only; rfl
theorem vsrl_vi (vm : Bool) (vd vs2 imm5 : Nat) : Statement (.vsrl_vi vm vd vs2 imm5) := by
  intro _; delta Instr.fields; simp only; rfl
theorem vsra_vv (vm : Bool) (vd vs2 vs1 : Nat) : Statement (.vsra_vv vm vd vs2 vs1) := by
  intro _; delta Instr.fields; simp only; rfl
theorem vsra_vx (vm : Bool) (vd vs2 rs1 : Nat) : Statement (.vsra_vx vm vd vs2 rs1) := by
  intro _; delta Instr.fields; simp only; rfl
theorem vsra_vi (vm : Bool) (vd vs2 imm5 : Nat) : Statement (.vsra_vi vm vd vs2 imm5) := by
  intro _; delta Instr.fields; simp only; rfl
theorem vssrl_vv (vm : Bool) (vd vs2 vs1 : Nat) : Statement (.vssrl_vv vm vd vs2 vs1) := by
  intro _; delta Instr.fields; simp only; rfl
theorem vssrl_vx (vm : Bool) (vd vs2 rs1 : Nat) : Statement (.vssrl_vx vm vd vs2 rs1) := by
  intro _; delta Instr.fields; simp only; rfl
theorem vssrl_vi (vm : Bool) (vd vs2 imm5 : Nat) : Statement (.vssrl_vi vm vd vs2 imm5) := by
  intro _; delta Instr.fields; simp only; rfl
theorem vssra_vv (vm : Bool) (vd vs2 vs1 : Nat) : Statement (.vssra_vv vm vd vs2 vs1) := by
  intro _; delta Instr.fields; simp only; rfl
theorem vssra_vx (vm : Bool) (vd vs2 rs1 : Nat) : Statement (.vssra_vx vm vd vs2 rs1) := by
  intro _; delta Instr.fields; simp only; rfl
theorem vssra_vi (vm : Bool) (vd vs2 imm5 : Nat) : Statement (.vssra_vi vm vd vs2 imm5) := by
  intro _; delta Instr.fields; simp only; rfl
theorem vnsrl_wv (vm : Bool) (vd vs2 vs1 : Nat) : Statement (.vnsrl_wv vm vd vs2 vs1) := by
  intro _; delta Instr.fields; simp only; rfl
theorem vnsrl_wx (vm : Bool) (vd vs2 rs1 : Nat) : Statement (.vnsrl_wx vm vd vs2 rs1) := by
  intro _; delta Instr.fields; simp only; rfl
theorem vnsrl_wi (vm : Bool) (vd vs2 imm5 : Nat) : Statement (.vnsrl_wi vm vd vs2 imm5) := by
  intro _; delta Instr.fields; simp only; rfl
theorem vnsra_wv (vm : Bool) (vd vs2 vs1 : Nat) : Statement (.vnsra_wv vm vd vs2 vs1) := by
  intro _; delta Instr.fields; simp only; rfl
theorem vnsra_wx (vm : Bool) (vd vs2 rs1 : Nat) : Statement (.vnsra_wx vm vd vs2 rs1) := by
  intro _; delta Instr.fields; simp only; rfl
theorem vnsra_wi (vm : Bool) (vd vs2 imm5 : Nat) : Statement (.vnsra_wi vm vd vs2 imm5) := by
  intro _; delta Instr.fields; simp only; rfl
theorem vnclipu_wv (vm : Bool) (vd vs2 vs1 : Nat) : Statement (.vnclipu_wv vm vd vs2 vs1) := by
  intro _; delta Instr.fields; simp only; rfl
theorem vnclipu_wx (vm : Bool) (vd vs2 rs1 : Nat) : Statement (.vnclipu_wx vm vd vs2 rs1) := by
  intro _; delta Instr.fields; simp only; rfl
theorem vnclipu_wi (vm : Bool) (vd vs2 imm5 : Nat) : Statement (.vnclipu_wi vm vd vs2 imm5) := by
  intro _; delta Instr.fields; simp only; rfl
theorem vnclip_wv (vm : Bool) (vd vs2 vs1 : Nat) : Statement (.vnclip_wv vm vd vs2 vs1) := by
  intro _; delta Instr.fields; simp only; rfl
theorem vnclip_wx (vm : Bool) (vd vs2 rs1 : Nat) : Statement (.vnclip_wx vm vd vs2 rs1) := by
  intro _; delta Instr.fields; simp only; rfl
theorem vnclip_wi (vm : Bool) (vd vs2 imm5 : Nat) : Statement (.vnclip_wi vm vd vs2 imm5) := by
  intro _; delta Instr.fields; simp only; rfl
theorem vwredsumu_vs (vm : Bool) (vd vs2 vs1 : Nat) : Statement (.vwredsumu_vs vm vd vs2 vs1) := by
  intro _; delta Instr.fields; simp only; rfl
theorem vwredsum_vs (vm : Bool) (vd vs2 vs1 : Nat) : Statement (.vwredsum_vs vm vd vs2 vs1) := by
  intro _; delta Instr.fields; simp only; rfl
theorem vredsum_vs (vm : Bool) (vd vs2 vs1 : Nat) : Statement (.vredsum_vs vm vd vs2 vs1) := by
  intro _; delta Instr.fields; simp only; rfl
theorem vredand_vs (vm : Bool) (vd vs2 vs1 : Nat) : Statement (.vredand_vs vm vd vs2 vs1) := by
  intro _; delta Instr.fields; simp only; rfl
theorem vredor_vs (vm : Bool) (vd vs2 vs1 : Nat) : Statement (.vredor_vs vm vd vs2 vs1) := by
  intro _; delta Instr.fields; simp only; rfl
theorem vredxor_vs (vm : Bool) (vd vs2 vs1 : Nat) : Statement (.vredxor_vs vm vd vs2 vs1) := by
  intro _; delta Instr.fields; simp only; rfl
theorem vredminu_vs (vm : Bool) (vd vs2 vs1 : Nat) : Statement (.vredminu_vs vm vd vs2 vs1) := by
  intro _; delta Instr.fields; simp only; rfl
theorem vredmin_vs (vm : Bool) (vd vs2 vs1 : Nat) : Statement (.vredmin_vs vm vd vs2 vs1) := by
  intro _; delta Instr.fields; simp only; rfl
theorem vredmaxu_vs (vm : Bool) (vd vs2 vs1 : Nat) : Statement (.vredmaxu_vs vm vd vs2 vs1) := by
  intro _; delta Instr.fields; simp only; rfl
theorem vredmax_vs (vm : Bool) (vd vs2 vs1 : Nat) : Statement (.vredmax_vs vm vd vs2 vs1) := by
  intro _; delta Instr.fields; simp only; rfl
theorem vaaddu_vv (vm : Bool) (vd vs2 vs1 : Nat) : Statement (.vaaddu_vv vm vd vs2 vs1) := by
  intro _; delta Instr.fields; simp only; rfl
theorem vaaddu_vx (vm : Bool) (vd vs2 rs1 : Nat) : Statement (.vaaddu_vx vm vd vs2 rs1) := by
  intro _; delta Instr.fields; simp only; rfl
theorem vaadd_vv (vm : Bool) (vd vs2 vs1 : Nat) : Statement (.vaadd_vv vm vd vs2 vs1) := by
  intro _; delta Instr.fields; simp only; rfl
theorem vaadd_vx (vm : Bool) (vd vs2 rs1 : Nat) : Statement (.vaadd_vx vm vd vs2 rs1) := by
  intro _; delta Instr.fields; simp only; rfl
theorem vasubu_vv (vm : Bool) (vd vs2 vs1 : Nat) : Statement (.vasubu_vv vm vd vs2 vs1) := by
  intro _; delta Instr.fields; simp only; rfl
theorem vasubu_vx (vm : Bool) (vd vs2 rs1 : Nat) : Statement (.vasubu_vx vm vd vs2 rs1) := by
  intro _; delta Instr.fields; simp only; rfl
theorem vasub_vv (vm : Bool) (vd vs2 vs1 : Nat) : Statement (.vasub_vv vm vd vs2 vs1) := by
  intro _; delta Instr.fields; simp only; rfl
theorem vasub_vx (vm : Bool) (vd vs2 rs1 : Nat) : Statement (.vasub_vx vm vd vs2 rs1) := by
  intro _; delta Instr.fields; simp only; rfl
theorem vslide1up_vx (vm : Bool) (vd vs2 rs1 : Nat) : Statement (.vslide1up_vx vm vd vs2 rs1) := by
  intro _; delta Instr.fields; simp only; rfl
theorem vslide1down_vx (vm : Bool) (vd vs2 rs1 : Nat) : Statement (.vslide1down_vx vm vd vs2 rs1) := by
  intro _; delta Instr.fields; simp only; rfl
theorem vzext_vf8 (vm : Bool) (vd vs2 : Nat) : Statement (.vzext_vf8 vm vd vs2) := by
  intro _; delta Instr.fields; simp only; rfl
theorem vsext_vf8 (vm : Bool) (vd vs2 : Nat) : Statement (.vsext_vf8 vm vd vs2) := by
  intro _; delta Instr.fields; simp only; rfl
theorem vzext_vf4 (vm : Bool) (vd vs2 : Nat) : Statement (.vzext_vf4 vm vd vs2) := by
  intro _; delta Instr.fields; simp only; rfl
theorem vsext_vf4 (vm : Bool) (vd vs2 : Nat) : Statement (.vsext_vf4 vm vd vs2) := by
  intro _; delta Instr.fields; simp only; rfl
theorem vzext_vf2 (vm : Bool) (vd vs2 : Nat) : Statement (.vzext_vf2 vm vd vs2) := by
  intro _; delta Instr.fields; simp only; rfl
theorem vsext_vf2 (vm : Bool) (vd vs2 : Nat) : Statement (.vsext_vf2 vm vd vs2) := by
  intro _; delta Instr.fields; simp only; rfl
theorem vdivu_vv (vm : Bool) (vd vs2 vs1 : Nat) : Statement (.vdivu_vv vm vd vs2 vs1) := by
  intro _; delta Instr.fields; simp only; rfl
theorem vdivu_vx (vm : Bool) (vd vs2 rs1 : Nat) : Statement (.vdivu_vx vm vd vs2 rs1) := by
  intro _; delta Instr.fields; simp only; rfl
theorem vdiv_vv (vm : Bool) (vd vs2 vs1 : Nat) : Statement (.vdiv_vv vm vd vs2 vs1) := by
  intro _; delta Instr.fields; simp only; rfl
theorem vdiv_vx (vm : Bool) (vd vs2 rs1 : Nat) : Statement (.vdiv_vx vm vd vs2 rs1) := by
  intro _; delta Instr.fields; simp only; rfl
theorem vremu_vv (vm : Bool) (vd vs2 vs1 : Nat) : Statement (.vremu_vv vm vd vs2 vs1) := by
  intro _; delta Instr.fields; simp only; rfl
theorem vremu_vx (vm : Bool) (vd vs2 rs1 : Nat) : Statement (.vremu_vx vm vd vs2 rs1) := by
  intro _; delta Instr.fields; simp only; rfl
theorem vrem_vv (vm : Bool) (vd vs2 vs1 : Nat) : Statement (.vrem_vv vm vd vs2 vs1) := by
  intro _; delta Instr.fields; simp only; rfl
theorem vrem_vx (vm : Bool) (vd vs2 rs1 : Nat) : Statement (.vrem_vx vm vd vs2 rs1) := by
  intro _; delta Instr.fields; simp only; rfl
theorem vmulhu_vv (vm : Bool) (vd vs2 vs1 : Nat) : Statement (.vmulhu_vv vm vd vs2 vs1) := by
  intro _; delta Instr.fields; simp only; rfl
theorem vmulhu_vx (vm : Bool) (vd vs2 rs1 : Nat) : Statement (.vmulhu_vx vm vd vs2 rs1) := by
  intro _; delta Instr.fields; simp only; rfl
theorem vmul_vv (vm : Bool) (vd vs2 vs1 : Nat) : Statement (.vmul_vv vm vd vs2 vs1) := by
  intro _; delta Instr.fields; simp only; rfl
theorem vmul_vx (vm : Bool) (vd vs2 rs1 : Nat) : Statement (.vmul_vx vm vd vs2 rs1) := by
  intro _; delta Instr.fields; simp only; rfl
theorem vmulhsu_vv (vm : Bool) (vd vs2 vs1 : Nat) : Statement (.vmulhsu_vv vm vd vs2 vs1) := by
  intro _; delta Instr.fields; simp only; rfl
theorem vmulhsu_vx (vm : Bool) (vd vs2 rs1 : Nat) : Statement (.vmulhsu_vx vm vd vs2 rs1) := by
  intro _; delta Instr.fields; simp only; rfl
theorem vmulh_vv (vm : Bool) (vd vs2 vs1 : Nat) : Statement (.vmulh_vv vm vd vs2 vs1) := by
  intro _; delta Instr.fields; simp only; rfl
theorem vmulh_vx (vm : Bool) (vd vs2 rs1 : Nat) : Statement (.vmulh_vx vm vd vs2 rs1) := by
  intro _; delta Instr.fields; simp only; rfl
theorem vmadd_vv (vm : Bool) (vd vs2 vs1 : Nat) : Statement (.vmadd_vv vm vd vs2 vs1) := by
  intro _; delta Instr.fields; simp only; rfl
theorem vmadd_vx (vm : Bool) (vd vs2 rs1 : Nat) : Statement (.vmadd_vx vm vd vs2 rs1) := by
  intro _; delta Instr.fields; simp only; rfl
theorem vnmsub_vv (vm : Bool) (vd vs2 vs1 : Nat) : Statement (.vnmsub_vv vm vd vs2 vs1) := by
  intro _; delta Instr.fields; simp only; rfl
theorem vnmsub_vx (vm : Bool) (vd vs2 rs1 : Nat) : Statement (.vnmsub_vx vm vd vs2 rs1) := by
  intro _; delta Instr.fields; simp only; rfl
theorem vmacc_vv (vm : Bool) (vd vs2 vs1 : Nat) : Statement (.vmacc_vv vm vd vs2 vs1) := by
  intro _; delta Instr.fields; simp only; rfl
theorem vmacc_vx (vm : Bool) (vd vs2 rs1 : Nat) : Statement (.vmacc_vx vm vd vs2 rs1) := by
  intro _; delta Instr.fields; simp only; rfl
theorem vnmsac_vv (vm : Bool) (vd vs2 vs1 : Nat) : Statement (.vnmsac_vv vm vd vs2 vs1) := by
  intro _; delta Instr.fields; simp only; rfl
theorem vnmsac_vx (vm : Bool) (vd vs2 rs1 : Nat) : Statement (.vnmsac_vx vm vd vs2 rs1) := by
  intro _; delta Instr.fields; simp only; rfl
theorem vwaddu_vv (vm : Bool) (vd vs2 vs1 : Nat) : Statement (.vwaddu_vv vm vd vs2 vs1) := by
  intro _; delta Instr.fields; simp only; rfl
theorem vwaddu_vx (vm : Bool) (vd vs2 rs1 : Nat) : Statement (.vwaddu_vx vm vd vs2 rs1) := by
  intro _; delta Instr.fields; simp only; rfl
theorem vwadd_vv (vm : Bool) (vd vs2 vs1 : Nat) : Statement (.vwadd_vv vm vd vs2 vs1) := by
  intro _; delta Instr.fields; simp only; rfl
theorem vwadd_vx (vm : Bool) (vd vs2 rs1 : Nat) : Statement (.vwadd_vx vm vd vs2 rs1) := by
  intro _; delta Instr.fields; simp only; rfl
theorem vwsubu_vv (vm : Bool) (vd vs2 vs1 : Nat) : Statement (.vwsubu_vv vm vd vs2 vs1) := by
  intro _; delta Instr.fields; simp only; rfl
theorem vwsubu_vx (vm : Bool) (vd vs2 rs1 : Nat) : Statement (.vwsubu_vx vm vd vs2 rs1) := by
  intro _; delta Instr.fields; simp only; rfl
theorem vwsub_vv (vm : Bool) (vd vs2 vs1 : Nat) : Statement (.vwsub_vv vm vd vs2 vs1) := by
  intro _; delta Instr.fields; simp only; rfl
theorem vwsub_vx (vm : Bool) (vd vs2 rs1 : Nat) : Statement (.vwsub_vx vm vd vs2 rs1) := by
  intro _; delta Instr.fields; simp only; rfl
theorem vwaddu_wv (vm : Bool) (vd vs2 vs1 : Nat) : Statement (.vwaddu_wv vm vd vs2 vs1) := by
  intro _; delta Instr.fields; simp only; rfl
theorem vwaddu_wx (vm : Bool) (vd vs2 rs1 : Nat) : Statement (.vwaddu_wx vm vd vs2 rs1) := by
  intro _; delta Instr.fields; simp only; rfl
theorem vwadd_wv (vm : Bool) (vd vs2 vs1 : Nat) : Statement (.vwadd_wv vm vd vs2 vs1) := by
  intro _; delta Instr.fields; simp only; rfl
theorem vwadd_wx (vm : Bool) (vd vs2 rs1 : Nat) : Statement (.vwadd_wx vm vd vs2 rs1) := by
  intro _; delta Instr.fields; simp only; rfl
theorem vwsubu_wv (vm : Bool) (vd vs2 vs1 : Nat) : Statement (.vwsubu_wv vm vd vs2 vs1) := by
  intro _; delta Instr.fields; simp only; rfl
theorem vwsubu_wx (vm : Bool) (vd vs2 rs1 : Nat) : Statement (.vwsubu_wx vm vd vs2 rs1) := by
  intro _; delta Instr.fields; simp only; rfl
theorem vwsub_wv (vm : Bool) (vd vs2 vs1 : Nat) : Statement (.vwsub_wv vm vd vs2 vs1) := by
  intro _; delta Instr.fields; simp only; rfl
theorem vwsub_wx (vm : Bool) (vd vs2 rs1 : Nat) : Statement (.vwsub_wx vm vd vs2 rs1) := by
  intro _; delta Instr.fields; simp only; rfl
theorem vwmulu_vv (vm : Bool) (vd vs2 vs1 : Nat) : Statement (.vwmulu_vv vm vd vs2 vs1) := by
  intro _; delta Instr.fields; simp only; rfl
theorem vwmulu_vx (vm : Bool) (vd vs2 rs1 : Nat) : Statement (.vwmulu_vx vm vd vs2 rs1) := by
  intro _; delta Instr.fields; simp only; rfl
theorem vwmulsu_vv (vm : Bool) (vd vs2 vs1 : Nat) : Statement (.vwmulsu_vv vm vd vs2 vs1) := by
  intro _; delta Instr.fields; simp only; rfl
theorem vwmulsu_vx (vm : Bool) (vd vs2 rs1 : Nat) : Statement (.vwmulsu_vx vm vd vs2 rs1) := by
  intro _; delta Instr.fields; simp only; rfl
theorem vwmul_vv (vm : Bool) (vd vs2 vs1 : Nat) : Statement (.vwmul_vv vm vd vs2 vs1) := by
  intro _; delta Instr.fields; simp only; rfl
theorem vwmul_vx (vm : Bool) (vd vs2 rs1 : Nat) : Statement (.vwmul_vx vm vd vs2 rs1) := by
  intro _; delta Instr.fields; simp only; rfl
theorem vwmaccu_vv (vm : Bool) (vd vs2 vs1 : Nat) : Statement (.vwmaccu_vv vm vd vs2 vs1) := by
  intro _; delta Instr.fields; simp only; rfl
theorem vwmaccu_vx (vm : Bool) (vd vs2 rs1 : Nat) : Statement (.vwmaccu_vx vm vd vs2 rs1) := by
  intro _; delta Instr.fields; simp only; rfl
theorem vwmacc_vv (vm : Bool) (vd vs2 vs1 : Nat) : Statement (.vwmacc_vv vm vd vs2 vs1) := by
  intro _; delta Instr.fields; simp only; rfl
theorem vwmacc_vx (vm : Bool) (vd vs2 rs1 : Nat) : Statement (.vwmacc_vx vm vd vs2 rs1) := by
  intro _; delta Instr.fields; simp only; rfl
theorem vwmaccus_vx (vm : Bool) (vd vs2 rs1 : Nat) : Statement (.vwmaccus_vx vm vd vs2 rs1) := by
  intro _; delta Instr.fields; simp only; rfl
theorem vwmaccsu_vv (vm : Bool) (vd vs2 vs1 : Nat) : Statement (.vwmaccsu_vv vm vd vs2 vs1) := by
  intro _; delta Instr.fields; simp only; rfl
theorem vwmaccsu_vx (vm : Bool) (vd vs2 rs1 : Nat) : Statement (.vwmaccsu_vx vm vd vs2 rs1) := by
  intro _; delta Instr.fields; simp only; rfl
theorem vle8_v (vm : Bool) (nf vd rs1 : Nat) : Statement (.vle8_v vm nf vd rs1) := by
  intro _; delta Instr.fields; simp only; rfl
theorem vle8ff_v (vm : Bool) (nf vd rs1 : Nat) : Statement (.vle8ff_v vm nf vd rs1) := by
  intro _; delta Instr.fields; simp only; rfl
theorem vlse8_v (vm : Bool) (nf vd rs1 rs2 : Nat) : Statement (.vlse8_v vm nf vd rs1 rs2) := by
  intro _; delta Instr.fields; simp only; rfl
theorem vluxei8_v (vm : Bool) (nf vd rs1 vs2 : Nat) : Statement (.vluxei8_v vm nf vd rs1 vs2) := by
  intro _; delta Instr.fields; simp only; rfl
theorem vloxei8_v (vm : Bool) (nf vd rs1 vs2 : Nat) : Statement (.vloxei8_v vm nf vd rs1 vs2) := by
  intro _; delta Instr.fields; simp only; rfl
theorem vse8_v (vm : Bool) (nf vs3 rs1 : Nat) : Statement (.vse8_v vm nf vs3 rs1) := by
  intro _; delta Instr.fields; simp only; rfl
theorem vsse8_v (vm : Bool) (nf vs3 rs1 rs2 : Nat) : Statement (.vsse8_v vm nf vs3 rs1 rs2) := by
  intro _; delta Instr.fields; simp only; rfl
theorem vsuxei8_v (vm : Bool) (nf vs3 rs1 vs2 : Nat) : Statement (.vsuxei8_v vm nf vs3 rs1 vs2) := by
  intro _; delta Instr.fields; simp only; rfl
theorem vsoxei8_v (vm : Bool) (nf vs3 rs1 vs2 : Nat) : Statement (.vsoxei8_v vm nf vs3 rs1 vs2) := by
  intro _; delta Instr.fields; simp only; rfl
theorem vle16_v (vm : Bool) (nf vd rs1 : Nat) : Statement (.vle16_v vm nf vd rs1) := by
  intro _; delta Instr.fields; simp only; rfl
theorem vle16ff_v (vm : Bool) (nf vd rs1 : Nat) : Statement (.vle16ff_v vm nf vd rs1) := by
  intro _; delta Instr.fields; simp only; rfl
theorem vlse16_v (vm : Bool) (nf vd rs1 rs2 : Nat) : Statement (.vlse16_v vm nf vd rs1 rs2) := by
  intro _; delta Instr.fields; simp only; rfl
theorem vluxei16_v (vm : Bool) (nf vd rs1 vs2 : Nat) : Statement (.vluxei16_v vm nf vd rs1 vs2) := by
  intro _; delta Instr.fields; simp only; rfl
theorem vloxei16_v (vm : Bool) (nf vd rs1 vs2 : Nat) : Statement (.vloxei16_v vm nf vd rs1 vs2) := by
  intro _; delta Instr.fields; simp only; rfl
theorem vse16_v (vm : Bool) (nf vs3 rs1 : Nat) : Statement (.vse16_v vm nf vs3 rs1) := by
  intro _; delta Instr.fields; simp only; rfl
theorem vsse16_v (vm : Bool) (nf vs3 rs1 rs2 : Nat) : Statement (.vsse16_v vm nf vs3 rs1 rs2) := by
  intro _; delta Instr.fields; simp only; rfl
theorem vsuxei16_v (vm : Bool) (nf vs3 rs1 vs2 : Nat) : Statement (.vsuxei16_v vm nf vs3 rs1 vs2) := by
  intro _; delta Instr.fields; simp only; rfl
theorem vsoxei16_v (vm : Bool) (nf vs3 rs1 vs2 : Nat) : Statement (.vsoxei16_v vm nf vs3 rs1 vs2) := by
  intro _; delta Instr.fields; simp only; rfl
theorem vle32_v (vm : Bool) (nf vd rs1 : Nat) : Statement (.vle32_v vm nf vd rs1) := by
  intro _; delta Instr.fields; simp only; rfl
theorem vle32ff_v (vm : Bool) (nf vd rs1 : Nat) : Statement (.vle32ff_v vm nf vd rs1) := by
  intro _; delta Instr.fields; simp only; rfl
theorem vlse32_v (vm : Bool) (nf vd rs1 rs2 : Nat) : Statement (.vlse32_v vm nf vd rs1 rs2) := by
  intro _; delta Instr.fields; simp only; rfl
theorem vluxei32_v (vm : Bool) (nf vd rs1 vs2 : Nat) : Statement (.vluxei32_v vm nf vd rs1 vs2) := by
  intro _; delta Instr.fields; simp only; rfl
theorem vloxei32_v (vm : Bool) (nf vd rs1 vs2 : Nat) : Statement (.vloxei32_v vm nf vd rs1 vs2) := by
  intro _; delta Instr.fields; simp only; rfl
theorem vse32_v (vm : Bool) (nf vs3 rs1 : Nat) : Statement (.vse32_v vm nf vs3 rs1) := by
  intro _; delta Instr.fields; simp only; rfl
theorem vsse32_v (vm : Bool) (nf vs3 rs1 rs2 : Nat) : Statement (.vsse32_v vm nf vs3 rs1 rs2) := by
  intro _; delta Instr.fields; simp only; rfl
theorem vsuxei32_v (vm : Bool) (nf vs3 rs1 vs2 : Nat) : Statement (.vsuxei32_v vm nf vs3 rs1 vs2) := by
  intro _; delta Instr.fields; simp only; rfl
theorem vsoxei32_v (vm : Bool) (nf vs3 rs1 vs2 : Nat) : Statement (.vsoxei32_v vm nf vs3 rs1 vs2) := by
  intro _; delta Instr.fields; simp only; rfl
theorem vle64_v (vm : Bool) (nf vd rs1 : Nat) : Statement (.vle64_v vm nf vd rs1) := by
  intro _; delta Instr.fields; simp only; rfl
theorem vle64ff_v (vm : Bool) (nf vd rs1 : Nat) : Statement (.vle64ff_v vm nf vd rs1) := by
  intro _; delta Instr.fields; simp only; rfl
theorem vlse64_v (vm : Bool) (nf vd rs1 rs2 : Nat) : Statement (.vlse64_v vm nf vd rs1 rs2) := by
  intro _; delta Instr.fields; simp only; rfl
theorem vluxei64_v (vm : Bool) (nf vd rs1 vs2 : Nat) : Statement (.vluxei64_v vm nf vd rs1 vs2) := by
  intro _; delta Instr.fields; simp only; rfl
theorem vloxei64_v (vm : Bool) (nf vd rs1 vs2 : Nat) : Statement (.vloxei64_v vm nf vd rs1 vs2) := by
  intro _; delta Instr.fields; simp only; rfl
theorem vse64_v (vm : Bool) (nf vs3 rs1 : Nat) : Statement (.vse64_v vm nf vs3 rs1) := by
  intro _; delta Instr.fields; simp only; rfl
theorem vsse64_v (vm : Bool) (nf vs3 rs1 rs2 : Nat) : Statement (.vsse64_v vm nf vs3 rs1 rs2) := by
  intro _; delta Instr.fields; simp only; rfl
theorem vsuxei64_v (vm : Bool) (nf vs3 rs1 vs2 : Nat) : Statement (.vsuxei64_v vm nf vs3 rs1 vs2) := by
  intro _; delta Instr.fields; simp only; rfl
theorem vsoxei64_v (vm : Bool) (nf vs3 rs1 vs2 : Nat) : Statement (.vsoxei64_v vm nf vs3 rs1 vs2) := by
  intro _; delta Instr.fields; simp only; rfl
theorem vl1re8_v (vd rs1 : Nat) : Statement (.vl1re8_v vd rs1) := by
  intro _; delta Instr.fields; simp only; rfl
theorem vl1re16_v (vd rs1 : Nat) : Statement (.vl1re16_v vd rs1) := by
  intro _; delta Instr.fields; simp only; rfl
theorem vl1re32_v (vd rs1 : Nat) : Statement (.vl1re32_v vd rs1) := by
  intro _; delta Instr.fields; simp only; rfl
theorem vl1re64_v (vd rs1 : Nat) : Statement (.vl1re64_v vd rs1) := by
  intro _; delta Instr.fields; simp only; rfl
theorem vs1r_v (vs3 rs1 : Nat) : Statement (.vs1r_v vs3 rs1) := by
  intro _; delta Instr.fields; simp only; rfl
theorem vl2re8_v (vd rs1 : Nat) : Statement (.vl2re8_v vd rs1) := by
  intro _; delta Instr.fields; simp only; rfl
theorem vl2re16_v (vd rs1 : Nat) : Statement (.vl2re16_v vd rs1) := by
  intro _; delta Instr.fields; simp only; rfl
theorem vl2re32_v (vd rs1 : Nat) : Statement (.vl2re32_v vd rs1) := by
  intro _; delta Instr.fields; simp only; rfl
theorem vl2re64_v (vd rs1 : Nat) : Statement (.vl2re64_v vd rs1) := by
  intro _; delta Instr.fields; simp only; rfl
theorem vs2r_v (vs3 rs1 : Nat) : Statement (.vs2r_v vs3 rs1) := by
  intro _; delta Instr.fields; simp only; rfl
theorem vl4re8_v (vd rs1 : Nat) : Statement (.vl4re8_v vd rs1) := by
  intro _; delta Instr.fields; simp only; rfl
theorem vl4re16_v (vd rs1 : Nat) : Statement (.vl4re16_v vd rs1) := by
  intro _; delta Instr.fields; simp only; rfl
theorem vl4re32_v (vd rs1 : Nat) : Statement (.vl4re32_v vd rs1) := by
  intro _; delta Instr.fields; simp only; rfl
theorem vl4re64_v (vd rs1 : Nat) : Statement (.vl4re64_v vd rs1) := by
  intro _; delta Instr.fields; simp only; rfl
theorem vs4r_v (vs3 rs1 : Nat) : Statement (.vs4r_v vs3 rs1) := by
  intro _; delta Instr.fields; simp only; rfl
theorem vl8re8_v (vd rs1 : Nat) : Statement (.vl8re8_v vd rs1) := by
  intro _; delta Instr.fields; simp only; rfl
theorem vl8re16_v (vd rs1 : Nat) : Statement (.vl8re16_v vd rs1) := by
  intro _; delta Instr.fields; simp only; rfl
theorem vl8re32_v (vd rs1 : Nat) : Statement (.vl8re32_v vd rs1) := by
  intro _; delta Instr.fields; simp only; rfl
theorem vl8re64_v (vd rs1 : Nat) : Statement (.vl8re64_v vd rs1) := by
  intro _; delta Instr.fields; simp only; rfl
theorem vs8r_v (vs3 rs1 : Nat) : Statement (.vs8r_v vs3 rs1) := by
  intro _; delta Instr.fields; simp only; rfl
theorem vlm_v (vd rs1 : Nat) : Statement (.vlm_v vd rs1) := by
  intro _; delta Instr.fields; simp only; rfl
theorem vsm_v (vs3 rs1 : Nat) : Statement (.vsm_v vs3 rs1) := by
  intro _; delta Instr.fields; simp only; rfl

end Sys2Proof.Laws.FieldsDecode
end

