-- ==== Sys2Proof/Tests/Slice0.lean ====
section
/-! SUPPORT. Tests: the well-formedness smoke, a word for every row of the opcode table, the spec's own vectors (95_test_vectors)
one step at a time, and a witness for the hypotheses of every statement. -/

namespace Sys2Proof.Tests

open Sys2Proof.Machine Sys2Proof.Reference Sys2Proof.Claims

/-! ### Helpers -/

/-- A reset machine with an element width and an active length. -/
def setup (vsew : BitVec 3) (vl : Nat) : State := { State.reset with vsew := vsew, vl := vl }

/-- A 16-byte register, all of it written. -/
def reg (r v : Nat) (s : State) : State := s.putBytes (List.range' (16 * r) 16) v

def setX (r : Nat) (v : BitVec 64) (s : State) : State := { s with x := s.x.set r v }

/-- The memory bytes from an address. -/
def setMem (a : Nat) (bytes : List Nat) (s : State) : State :=
  { s with mem := Memory.writeCells s.mem ((List.range bytes.length).map (fun k => (a + k, BitVec.ofNat 8 (bytes.getD k 0)))) }

/-- `k` calls answered Ok, then a fault. -/
def failAt (k : Nat) (kind : FaultKind) (s : State) : State :=
  { s with answers := List.replicate k ⟨[], none⟩ ++ [⟨[], some kind⟩] }

def runs (i : Instr) (s : State) (p : State → Bool) : Bool :=
  match exec i s with
  | .next t => p t
  | .fault _ => false
  | .refused _ => false

def el (t : State) (w r ei : Nat) : Nat := (elem t.cfg t.vrf w r ei).toNat

def els (t : State) (w r n : Nat) : List Nat := (List.range n).map (el t w r)

def byteAt (t : State) (r k : Nat) : Nat := (Memory.read t.vrf (16 * r + k)).toNat

def done (t : State) : Bool := t.result == some .done && t.vstart == 0 && t.pc == 0x80000004

/-! ### Well-formedness

One ill-formed term for each check of each operand shape: the named field is one too big, every other at its maximum. -/

def illFormed : List Instr := [
  .vadd_vv true 32 31 31, .vadd_vv true 31 32 31, .vadd_vv true 31 31 32,
  .vadd_vx true 32 31 31, .vadd_vx true 31 32 31, .vadd_vx true 31 31 32,
  .vadd_vi true 32 31 31, .vadd_vi true 31 32 31, .vadd_vi true 31 31 32,
  .vadc_vvm 32 31 31, .vadc_vvm 31 32 31, .vadc_vvm 31 31 32,
  .vadc_vxm 32 31 31, .vadc_vxm 31 32 31, .vadc_vxm 31 31 32,
  .vadc_vim 32 31 31, .vadc_vim 31 32 31, .vadc_vim 31 31 32,
  .vzext_vf8 true 32 31, .vzext_vf8 true 31 32, .vle8_v true 8 31 31,
  .vle8_v true 7 32 31, .vle8_v true 7 31 32, .vlse8_v true 8 31 31 31,
  .vlse8_v true 7 32 31 31, .vlse8_v true 7 31 32 31, .vlse8_v true 7 31 31 32,
  .vluxei8_v true 8 31 31 31, .vluxei8_v true 7 32 31 31, .vluxei8_v true 7 31 32 31,
  .vluxei8_v true 7 31 31 32, .vse8_v true 8 31 31, .vse8_v true 7 32 31,
  .vse8_v true 7 31 32, .vsse8_v true 8 31 31 31, .vsse8_v true 7 32 31 31,
  .vsse8_v true 7 31 32 31, .vsse8_v true 7 31 31 32, .vsuxei8_v true 8 31 31 31,
  .vsuxei8_v true 7 32 31 31, .vsuxei8_v true 7 31 32 31, .vsuxei8_v true 7 31 31 32,
  .vl1re8_v 32 31, .vl1re8_v 31 32, .vs1r_v 32 31,
  .vs1r_v 31 32]

theorem test_wf_refuses : illFormed.all (fun i => !i.wf) = true := by decide

theorem test_wf_accepts_the_largest_fields : Instr.wf (.vadd_vv true 31 31 31) = true
    ∧ Instr.wf (.vlse8_v false 7 31 31 31) = true ∧ Instr.wf (.vs8r_v 31 31) = true := by decide

/-! ### Decoding

Each word is a row's `encoding` pattern of the opcode table with `vd` or `vs3` 8, `vs2` 16, `vs1` 24, `rs1` 10, `rs2` 11, `imm5` 21,
`nf` 1, and `vm` 1 and 0 by turns. -/

def sameWidthWords1 : List (Nat × Instr) := [
  (0x030C0457, .vadd_vv true 8 16 24), (0x01054457, .vadd_vx false 8 16 10),
  (0x030AB457, .vadd_vi true 8 16 21), (0x090C0457, .vsub_vv false 8 16 24),
  (0x0B054457, .vsub_vx true 8 16 10), (0x0D054457, .vrsub_vx false 8 16 10),
  (0x0F0AB457, .vrsub_vi true 8 16 21), (0x110C0457, .vminu_vv false 8 16 24),
  (0x13054457, .vminu_vx true 8 16 10), (0x150C0457, .vmin_vv false 8 16 24),
  (0x17054457, .vmin_vx true 8 16 10), (0x190C0457, .vmaxu_vv false 8 16 24),
  (0x1B054457, .vmaxu_vx true 8 16 10), (0x1D0C0457, .vmax_vv false 8 16 24),
  (0x1F054457, .vmax_vx true 8 16 10), (0x250C0457, .vand_vv false 8 16 24),
  (0x27054457, .vand_vx true 8 16 10), (0x250AB457, .vand_vi false 8 16 21),
  (0x2B0C0457, .vor_vv true 8 16 24), (0x29054457, .vor_vx false 8 16 10),
  (0x2B0AB457, .vor_vi true 8 16 21), (0x2D0C0457, .vxor_vv false 8 16 24),
  (0x2F054457, .vxor_vx true 8 16 10), (0x2D0AB457, .vxor_vi false 8 16 21),
  (0x410C0457, .vadc_vvm 8 16 24), (0x41054457, .vadc_vxm 8 16 10),
  (0x410AB457, .vadc_vim 8 16 21), (0x490C0457, .vsbc_vvm 8 16 24),
  (0x49054457, .vsbc_vxm 8 16 10), (0x970C0457, .vsll_vv true 8 16 24)]

def sameWidthWords2 : List (Nat × Instr) := [
  (0x95054457, .vsll_vx false 8 16 10), (0x970AB457, .vsll_vi true 8 16 21),
  (0xA10C0457, .vsrl_vv false 8 16 24), (0xA3054457, .vsrl_vx true 8 16 10),
  (0xA10AB457, .vsrl_vi false 8 16 21), (0xA70C0457, .vsra_vv true 8 16 24),
  (0xA5054457, .vsra_vx false 8 16 10), (0xA70AB457, .vsra_vi true 8 16 21),
  (0x950C2457, .vmul_vv false 8 16 24), (0x97056457, .vmul_vx true 8 16 10),
  (0xA50C2457, .vmadd_vv false 8 16 24), (0xA7056457, .vmadd_vx true 8 16 10),
  (0xAD0C2457, .vnmsub_vv false 8 16 24), (0xAF056457, .vnmsub_vx true 8 16 10),
  (0xB50C2457, .vmacc_vv false 8 16 24), (0xB7056457, .vmacc_vx true 8 16 10),
  (0xBD0C2457, .vnmsac_vv false 8 16 24), (0xBF056457, .vnmsac_vx true 8 16 10)]

def permutationWords1 : List (Nat × Instr) := [
  (0x330C0457, .vrgather_vv true 8 16 24), (0x31054457, .vrgather_vx false 8 16 10),
  (0x330AB457, .vrgather_vi true 8 16 21), (0x39054457, .vslideup_vx false 8 16 10),
  (0x3B0AB457, .vslideup_vi true 8 16 21), (0x3D054457, .vslidedown_vx false 8 16 10),
  (0x3F0AB457, .vslidedown_vi true 8 16 21), (0x39056457, .vslide1up_vx false 8 16 10),
  (0x3F056457, .vslide1down_vx true 8 16 10)]

def compareWords1 : List (Nat × Instr) := [
  (0x450C0457, .vmadc_vvm 8 16 24), (0x45054457, .vmadc_vxm 8 16 10),
  (0x450AB457, .vmadc_vim 8 16 21), (0x470C0457, .vmadc_vv 8 16 24),
  (0x47054457, .vmadc_vx 8 16 10), (0x470AB457, .vmadc_vi 8 16 21),
  (0x4D0C0457, .vmsbc_vvm 8 16 24), (0x4D054457, .vmsbc_vxm 8 16 10),
  (0x4F0C0457, .vmsbc_vv 8 16 24), (0x4F054457, .vmsbc_vx 8 16 10),
  (0x630C0457, .vmseq_vv true 8 16 24), (0x61054457, .vmseq_vx false 8 16 10),
  (0x630AB457, .vmseq_vi true 8 16 21), (0x650C0457, .vmsne_vv false 8 16 24),
  (0x67054457, .vmsne_vx true 8 16 10), (0x650AB457, .vmsne_vi false 8 16 21),
  (0x6B0C0457, .vmsltu_vv true 8 16 24), (0x69054457, .vmsltu_vx false 8 16 10),
  (0x6F0C0457, .vmslt_vv true 8 16 24), (0x6D054457, .vmslt_vx false 8 16 10),
  (0x730C0457, .vmsleu_vv true 8 16 24), (0x71054457, .vmsleu_vx false 8 16 10),
  (0x730AB457, .vmsleu_vi true 8 16 21), (0x750C0457, .vmsle_vv false 8 16 24),
  (0x77054457, .vmsle_vx true 8 16 10), (0x750AB457, .vmsle_vi false 8 16 21),
  (0x7B054457, .vmsgtu_vx true 8 16 10), (0x790AB457, .vmsgtu_vi false 8 16 21),
  (0x7F054457, .vmsgt_vx true 8 16 10), (0x7D0AB457, .vmsgt_vi false 8 16 21)]

def fixedPointWords1 : List (Nat × Instr) := [
  (0x830C0457, .vsaddu_vv true 8 16 24), (0x81054457, .vsaddu_vx false 8 16 10),
  (0x830AB457, .vsaddu_vi true 8 16 21), (0x850C0457, .vsadd_vv false 8 16 24),
  (0x87054457, .vsadd_vx true 8 16 10), (0x850AB457, .vsadd_vi false 8 16 21),
  (0x8B0C0457, .vssubu_vv true 8 16 24), (0x89054457, .vssubu_vx false 8 16 10),
  (0x8F0C0457, .vssub_vv true 8 16 24), (0x8D054457, .vssub_vx false 8 16 10),
  (0x9D0C0457, .vsmul_vv false 8 16 24), (0x9F054457, .vsmul_vx true 8 16 10),
  (0xA90C0457, .vssrl_vv false 8 16 24), (0xAB054457, .vssrl_vx true 8 16 10),
  (0xA90AB457, .vssrl_vi false 8 16 21), (0xAF0C0457, .vssra_vv true 8 16 24),
  (0xAD054457, .vssra_vx false 8 16 10), (0xAF0AB457, .vssra_vi true 8 16 21),
  (0xB90C0457, .vnclipu_wv false 8 16 24), (0xBB054457, .vnclipu_wx true 8 16 10),
  (0xB90AB457, .vnclipu_wi false 8 16 21), (0xBF0C0457, .vnclip_wv true 8 16 24),
  (0xBD054457, .vnclip_wx false 8 16 10), (0xBF0AB457, .vnclip_wi true 8 16 21),
  (0x210C2457, .vaaddu_vv false 8 16 24), (0x23056457, .vaaddu_vx true 8 16 10),
  (0x250C2457, .vaadd_vv false 8 16 24), (0x27056457, .vaadd_vx true 8 16 10),
  (0x290C2457, .vasubu_vv false 8 16 24), (0x2B056457, .vasubu_vx true 8 16 10)]

def fixedPointWords2 : List (Nat × Instr) := [
  (0x2D0C2457, .vasub_vv false 8 16 24), (0x2F056457, .vasub_vx true 8 16 10)]

def wideningWords1 : List (Nat × Instr) := [
  (0xB10C0457, .vnsrl_wv false 8 16 24), (0xB3054457, .vnsrl_wx true 8 16 10),
  (0xB10AB457, .vnsrl_wi false 8 16 21), (0xB70C0457, .vnsra_wv true 8 16 24),
  (0xB5054457, .vnsra_wx false 8 16 10), (0xB70AB457, .vnsra_wi true 8 16 21),
  (0x49012457, .vzext_vf8 false 8 16), (0x4B01A457, .vsext_vf8 true 8 16),
  (0x49022457, .vzext_vf4 false 8 16), (0x4B02A457, .vsext_vf4 true 8 16),
  (0x49032457, .vzext_vf2 false 8 16), (0x4B03A457, .vsext_vf2 true 8 16),
  (0xC10C2457, .vwaddu_vv false 8 16 24), (0xC3056457, .vwaddu_vx true 8 16 10),
  (0xC50C2457, .vwadd_vv false 8 16 24), (0xC7056457, .vwadd_vx true 8 16 10),
  (0xC90C2457, .vwsubu_vv false 8 16 24), (0xCB056457, .vwsubu_vx true 8 16 10),
  (0xCD0C2457, .vwsub_vv false 8 16 24), (0xCF056457, .vwsub_vx true 8 16 10),
  (0xD10C2457, .vwaddu_wv false 8 16 24), (0xD3056457, .vwaddu_wx true 8 16 10),
  (0xD50C2457, .vwadd_wv false 8 16 24), (0xD7056457, .vwadd_wx true 8 16 10),
  (0xD90C2457, .vwsubu_wv false 8 16 24), (0xDB056457, .vwsubu_wx true 8 16 10),
  (0xDD0C2457, .vwsub_wv false 8 16 24), (0xDF056457, .vwsub_wx true 8 16 10),
  (0xE10C2457, .vwmulu_vv false 8 16 24), (0xE3056457, .vwmulu_vx true 8 16 10)]

def wideningWords2 : List (Nat × Instr) := [
  (0xE90C2457, .vwmulsu_vv false 8 16 24), (0xEB056457, .vwmulsu_vx true 8 16 10),
  (0xED0C2457, .vwmul_vv false 8 16 24), (0xEF056457, .vwmul_vx true 8 16 10),
  (0xF10C2457, .vwmaccu_vv false 8 16 24), (0xF3056457, .vwmaccu_vx true 8 16 10),
  (0xF50C2457, .vwmacc_vv false 8 16 24), (0xF7056457, .vwmacc_vx true 8 16 10),
  (0xF9056457, .vwmaccus_vx false 8 16 10), (0xFF0C2457, .vwmaccsu_vv true 8 16 24),
  (0xFD056457, .vwmaccsu_vx false 8 16 10)]

def reductionWords1 : List (Nat × Instr) := [
  (0xC10C0457, .vwredsumu_vs false 8 16 24), (0xC70C0457, .vwredsum_vs true 8 16 24),
  (0x010C2457, .vredsum_vs false 8 16 24), (0x070C2457, .vredand_vs true 8 16 24),
  (0x090C2457, .vredor_vs false 8 16 24), (0x0F0C2457, .vredxor_vs true 8 16 24),
  (0x110C2457, .vredminu_vs false 8 16 24), (0x170C2457, .vredmin_vs true 8 16 24),
  (0x190C2457, .vredmaxu_vs false 8 16 24), (0x1F0C2457, .vredmax_vs true 8 16 24)]

def multiplyDivideWords1 : List (Nat × Instr) := [
  (0x810C2457, .vdivu_vv false 8 16 24), (0x83056457, .vdivu_vx true 8 16 10),
  (0x850C2457, .vdiv_vv false 8 16 24), (0x87056457, .vdiv_vx true 8 16 10),
  (0x890C2457, .vremu_vv false 8 16 24), (0x8B056457, .vremu_vx true 8 16 10),
  (0x8D0C2457, .vrem_vv false 8 16 24), (0x8F056457, .vrem_vx true 8 16 10),
  (0x910C2457, .vmulhu_vv false 8 16 24), (0x93056457, .vmulhu_vx true 8 16 10),
  (0x990C2457, .vmulhsu_vv false 8 16 24), (0x9B056457, .vmulhsu_vx true 8 16 10),
  (0x9D0C2457, .vmulh_vv false 8 16 24), (0x9F056457, .vmulh_vx true 8 16 10)]

def memoryWords1 : List (Nat × Instr) := [
  (0x22050407, .vle8_v true 1 8 10), (0x21050407, .vle8ff_v false 1 8 10),
  (0x2AB50407, .vlse8_v true 1 8 10 11), (0x25050407, .vluxei8_v false 1 8 10 16),
  (0x2F050407, .vloxei8_v true 1 8 10 16), (0x20050427, .vse8_v false 1 8 10),
  (0x2AB50427, .vsse8_v true 1 8 10 11), (0x25050427, .vsuxei8_v false 1 8 10 16),
  (0x2F050427, .vsoxei8_v true 1 8 10 16), (0x20055407, .vle16_v false 1 8 10),
  (0x23055407, .vle16ff_v true 1 8 10), (0x28B55407, .vlse16_v false 1 8 10 11),
  (0x27055407, .vluxei16_v true 1 8 10 16), (0x2D055407, .vloxei16_v false 1 8 10 16),
  (0x22055427, .vse16_v true 1 8 10), (0x28B55427, .vsse16_v false 1 8 10 11),
  (0x27055427, .vsuxei16_v true 1 8 10 16), (0x2D055427, .vsoxei16_v false 1 8 10 16),
  (0x22056407, .vle32_v true 1 8 10), (0x21056407, .vle32ff_v false 1 8 10),
  (0x2AB56407, .vlse32_v true 1 8 10 11), (0x25056407, .vluxei32_v false 1 8 10 16),
  (0x2F056407, .vloxei32_v true 1 8 10 16), (0x20056427, .vse32_v false 1 8 10),
  (0x2AB56427, .vsse32_v true 1 8 10 11), (0x25056427, .vsuxei32_v false 1 8 10 16),
  (0x2F056427, .vsoxei32_v true 1 8 10 16), (0x20057407, .vle64_v false 1 8 10),
  (0x23057407, .vle64ff_v true 1 8 10), (0x28B57407, .vlse64_v false 1 8 10 11)]

def memoryWords2 : List (Nat × Instr) := [
  (0x27057407, .vluxei64_v true 1 8 10 16), (0x2D057407, .vloxei64_v false 1 8 10 16),
  (0x22057427, .vse64_v true 1 8 10), (0x28B57427, .vsse64_v false 1 8 10 11),
  (0x27057427, .vsuxei64_v true 1 8 10 16), (0x2D057427, .vsoxei64_v false 1 8 10 16),
  (0x02850407, .vl1re8_v 8 10), (0x02855407, .vl1re16_v 8 10),
  (0x02856407, .vl1re32_v 8 10), (0x02857407, .vl1re64_v 8 10),
  (0x02850427, .vs1r_v 8 10), (0x22850407, .vl2re8_v 8 10),
  (0x22855407, .vl2re16_v 8 10), (0x22856407, .vl2re32_v 8 10),
  (0x22857407, .vl2re64_v 8 10), (0x22850427, .vs2r_v 8 10),
  (0x62850407, .vl4re8_v 8 10), (0x62855407, .vl4re16_v 8 10),
  (0x62856407, .vl4re32_v 8 10), (0x62857407, .vl4re64_v 8 10),
  (0x62850427, .vs4r_v 8 10), (0xE2850407, .vl8re8_v 8 10),
  (0xE2855407, .vl8re16_v 8 10), (0xE2856407, .vl8re32_v 8 10),
  (0xE2857407, .vl8re64_v 8 10), (0xE2850427, .vs8r_v 8 10),
  (0x02B50407, .vlm_v 8 10), (0x02B50427, .vsm_v 8 10)]

/-- Every word of the list decodes to its instruction. -/
def decodesAll (l : List (Nat × Instr)) : Bool := l.all (fun p => decodeTableWord 32 p.1 == some p.2)

theorem test_decode_sameWidthWords1 : decodesAll sameWidthWords1 = true := by decide
theorem test_decode_sameWidthWords2 : decodesAll sameWidthWords2 = true := by decide
theorem test_decode_permutationWords1 : decodesAll permutationWords1 = true := by decide
theorem test_decode_compareWords1 : decodesAll compareWords1 = true := by decide
theorem test_decode_fixedPointWords1 : decodesAll fixedPointWords1 = true := by decide
theorem test_decode_fixedPointWords2 : decodesAll fixedPointWords2 = true := by decide
theorem test_decode_wideningWords1 : decodesAll wideningWords1 = true := by decide
theorem test_decode_wideningWords2 : decodesAll wideningWords2 = true := by decide
theorem test_decode_reductionWords1 : decodesAll reductionWords1 = true := by decide
theorem test_decode_multiplyDivideWords1 : decodesAll multiplyDivideWords1 = true := by decide
theorem test_decode_memoryWords1 : decodesAll memoryWords1 = true := by decide
theorem test_decode_memoryWords2 : decodesAll memoryWords2 = true := by decide

theorem test_decode_every_row : (sameWidthWords1.length + sameWidthWords2.length + permutationWords1.length + compareWords1.length + fixedPointWords1.length + fixedPointWords2.length + wideningWords1.length + wideningWords2.length + reductionWords1.length + multiplyDivideWords1.length + memoryWords1.length + memoryWords2.length) = 242 := by rfl

/-! ### Readiness and completion

Where an instruction runs: SEW 32 and LMUL 1, except the extensions by 8, which need SEW 64. -/

def readyB (s : State) (i : Instr) : Bool := s.inv && i.wf && s.typingOk && legal s i

theorem ready_of {s : State} {i : Instr} (h : readyB s i = true) : Ready s i := by
  simpa [readyB, Ready, Bool.and_eq_true, and_assoc] using h

/-- Element 0 with every bit of the file written and the mask all ones: the instruction is ready and completes. -/
def completesAt (vsew : BitVec 3) (i : Instr) : Bool :=
  let s := reg 0 (2 ^ 128 - 1) (setX 10 0x1000 (setup vsew 1))
  readyB s i && runs i s done

def isFractionEight (i : Instr) : Bool :=
  match i with
  | .vzext_vf8 .. => true
  | .vsext_vf8 .. => true
  | _ => false

def completesAll (l : List (Nat × Instr)) : Bool :=
  l.all (fun p => completesAt (if isFractionEight p.2 then 3 else 2) p.2)

theorem test_completes_sameWidthWords1 : completesAll sameWidthWords1 = true := by decide
theorem test_completes_sameWidthWords2 : completesAll sameWidthWords2 = true := by decide
theorem test_completes_permutationWords1 : completesAll permutationWords1 = true := by decide
theorem test_completes_compareWords1 : completesAll compareWords1 = true := by decide
theorem test_completes_fixedPointWords1 : completesAll fixedPointWords1 = true := by decide
theorem test_completes_fixedPointWords2 : completesAll fixedPointWords2 = true := by decide
theorem test_completes_wideningWords1 : completesAll wideningWords1 = true := by decide
theorem test_completes_wideningWords2 : completesAll wideningWords2 = true := by decide
theorem test_completes_reductionWords1 : completesAll reductionWords1 = true := by decide
theorem test_completes_multiplyDivideWords1 : completesAll multiplyDivideWords1 = true := by decide
theorem test_completes_memoryWords1 : completesAll memoryWords1 = true := by decide
set_option maxRecDepth 4096 in
theorem test_completes_memoryWords2 : completesAll memoryWords2 = true := by decide

/-! ### The spec's vectors (95_test_vectors Parts 1 and 2), one step each -/

/-- Element 0 of an instruction over `v16` (op2), `v24` or `x10` (op1) and `v8` (vd): the result, and `vxsat`. -/
structure Row where
  i : Instr
  op2 : Nat
  op1 : Nat
  old : Nat
  want : Nat
  sat : Bool

def Row.holds (vsew : BitVec 3) (wd : Nat) (rm : RoundMode) (saturates : Bool) (r : Row) : Bool :=
  let s := reg 8 r.old (reg 24 r.op1 (reg 16 r.op2 (reg 0 1 (setX 10 (BitVec.ofNat 64 r.op1) (setup vsew 1)))))
  let s := { s with vxrm := rm, cfg := { s.cfg with nclipSaturates := saturates } }
  runs r.i s (fun t => el t wd 8 0 == r.want && t.vxsat == r.sat && done t)

def allHold (vsew : BitVec 3) (wd : Nat) (l : List Row) : Bool := l.all (Row.holds vsew wd .rnu false)

/-- V-43-1, 4, 6, 7, 11, 15 to 18, 20; V-43-14 has `vd = vs1 = vs2`. -/
theorem test_same_width : allHold 0 8 [
    ⟨.vadd_vv true 8 16 24, 0xF0, 0x20, 0, 0x10, false⟩, ⟨.vadd_vx true 8 16 10, 1, 0x1FF, 0, 0, false⟩,
    ⟨.vrsub_vi true 8 16 16, 5, 0, 0, 0xEB, false⟩, ⟨.vand_vi true 8 16 31, 0x5A, 0, 0, 0x5A, false⟩,
    ⟨.vminu_vv true 8 16 24, 0xFF, 1, 0, 1, false⟩, ⟨.vmin_vv true 8 16 24, 0xFF, 1, 0, 0xFF, false⟩,
    ⟨.vmaxu_vv true 8 16 24, 0xFF, 1, 0, 0xFF, false⟩, ⟨.vmax_vv true 8 16 24, 0xFF, 1, 0, 1, false⟩,
    ⟨.vmacc_vv true 8 8 8, 0, 0, 3, 12, false⟩, ⟨.vnmsac_vv true 8 16 24, 4, 3, 5, 0xF9, false⟩,
    ⟨.vmadd_vv true 8 16 24, 5, 3, 4, 17, false⟩, ⟨.vnmsub_vv true 8 16 24, 5, 3, 4, 0xF9, false⟩,
    ⟨.vadc_vim 8 16 31, 5, 0, 0, 5, false⟩, ⟨.vsbc_vvm 8 16 24, 0, 0, 0, 0xFF, false⟩] = true := by decide

/-- V-43-5, 9, 10, 12 at SEW 16 and V-43-2, 8 at SEW 64. -/
theorem test_same_width_wider : allHold 1 16 [
    ⟨.vsub_vv true 8 16 24, 5, 7, 0, 0xFFFE, false⟩, ⟨.vsrl_vv true 8 16 24, 0x8000, 16, 0, 0x8000, false⟩,
    ⟨.vsra_vi true 8 16 15, 0x8000, 0, 0, 0xFFFF, false⟩, ⟨.vmul_vv true 8 16 24, 0xFFFF, 0xFFFF, 0, 1, false⟩] = true
    ∧ allHold 3 64 [⟨.vadd_vv true 8 16 24, 0xFFFFFFFFFFFFFFFF, 1, 9, 0, false⟩,
      ⟨.vsll_vx true 8 16 10, 1, 67, 0, 8, false⟩] = true := by decide

/-- V-44-1 to 10, 12 to 16, at SEW 8 with a 16-bit result. -/
theorem test_widening : allHold 0 16 [
    ⟨.vwaddu_vv true 8 16 24, 0xFF, 0xFF, 0, 0x01FE, false⟩, ⟨.vwaddu_vx true 8 16 10, 0x80, 0x1FF, 0, 0x017F, false⟩,
    ⟨.vwadd_vv true 8 16 24, 0xFF, 0xFF, 0, 0xFFFE, false⟩, ⟨.vwsubu_vv true 8 16 24, 0, 1, 0, 0xFFFF, false⟩,
    ⟨.vwsub_vv true 8 16 24, 0x80, 0x7F, 0, 0xFF01, false⟩, ⟨.vwaddu_wv true 8 16 24, 0xFFFF, 1, 9, 0, false⟩,
    ⟨.vwadd_wx true 8 16 10, 0x7FFF, 0xFFFFFFFFFFFFFFFF, 0, 0x7FFE, false⟩,
    ⟨.vwsubu_wv true 8 16 24, 0, 1, 0, 0xFFFF, false⟩, ⟨.vwsub_wv true 8 16 24, 0, 0xFF, 0, 1, false⟩,
    ⟨.vwmulu_vv true 8 16 24, 0xFF, 0xFF, 0, 0xFE01, false⟩, ⟨.vwmul_vv true 8 16 24, 0x7F, 0x80, 0, 0xC080, false⟩,
    ⟨.vwmulsu_vv true 8 16 24, 0xFF, 0xFF, 0, 0xFF01, false⟩, ⟨.vwmaccu_vv true 8 16 24, 0xFF, 0xFF, 0x01FF, 0, false⟩,
    ⟨.vwmacc_vv true 8 16 24, 3, 0xFF, 5, 2, false⟩, ⟨.vwmaccsu_vv true 8 16 24, 0xFF, 0xFF, 0, 0xFF01, false⟩,
    ⟨.vwmaccus_vx true 8 16 10, 0xFF, 0xFF, 1, 0xFF02, false⟩] = true := by decide

/-- V-44-17, 18, 19 to 22. -/
theorem test_narrowing_and_extension : allHold 0 8 [
    ⟨.vnsrl_wi true 8 16 4, 0x1234, 0, 0, 0x23, false⟩, ⟨.vnsrl_wi true 8 16 16, 0x1234, 0, 0, 0x34, false⟩,
    ⟨.vnsra_wi true 8 16 15, 0x8000, 0, 0, 0xFF, false⟩] = true
    ∧ allHold 1 16 [⟨.vzext_vf2 true 8 16, 0xFF, 0, 0, 0x00FF, false⟩, ⟨.vsext_vf2 true 8 16, 0x85, 0, 0, 0xFF85, false⟩] = true
    ∧ allHold 2 32 [⟨.vsext_vf4 true 8 16, 0x80, 0, 0, 0xFFFFFF80, false⟩] = true
    ∧ allHold 3 64 [⟨.vzext_vf8 true 8 16, 0x81, 0, 0, 0x81, false⟩,
      ⟨.vsext_vf8 true 8 16, 0xFF, 0, 0, 0xFFFFFFFFFFFFFFFF, false⟩] = true := by decide

/-- E3 and V-45-1 to 9, 17, 19. -/
theorem test_saturating : allHold 0 8 [
    ⟨.vsaddu_vv true 8 16 24, 0xFF, 1, 0, 0xFF, true⟩, ⟨.vsaddu_vv true 8 16 24, 0x10, 0x20, 0, 0x30, false⟩,
    ⟨.vsadd_vv true 8 16 24, 0x40, 0x40, 0, 0x7F, true⟩, ⟨.vsadd_vv true 8 16 24, 0x7F, 0x80, 0, 0xFF, false⟩,
    ⟨.vssubu_vv true 8 16 24, 0x10, 0x20, 0, 0, true⟩, ⟨.vssubu_vv true 8 16 24, 0xFF, 0xFF, 0, 0, false⟩,
    ⟨.vssub_vv true 8 16 24, 0x7F, 0xFF, 0, 0x7F, true⟩, ⟨.vssub_vv true 8 16 24, 0, 0x7F, 0, 0x81, false⟩,
    ⟨.vsmul_vv true 8 16 24, 0x80, 0x80, 0, 0x7F, true⟩, ⟨.vsmul_vv true 8 16 24, 0x80, 0x7F, 0, 0x81, false⟩] = true := by
  decide

/-- The four rounding modes of a row: V-45-10, 15, 13, 16, 18, 20, 22, 25, 28, 34. -/
def modes (i : Instr) (op2 op1 : Nat) (want : List Nat) : Bool :=
  [RoundMode.rnu, .rne, .rdn, .rod].map (fun rm => (Row.mk i op2 op1 0 (want.getD rm.code 0) false).holds 0 8 rm false)
    == [true, true, true, true]

theorem test_rounding_modes : modes (.vaaddu_vv true 8 16 24) 1 2 [2, 2, 1, 1] = true
    ∧ modes (.vasubu_vv true 8 16 24) 0 0xFF [0x81, 0x80, 0x80, 0x81] = true
    ∧ modes (.vaadd_vv true 8 16 24) 0x80 0xFF [0xC0, 0xC0, 0xBF, 0xBF] = true
    ∧ modes (.vasub_vv true 8 16 24) 0x80 0x7F [0x81, 0x80, 0x80, 0x81] = true
    ∧ modes (.vsmul_vv true 8 16 24) 0xFF 0x01 [0, 0, 0xFF, 0xFF] = true
    ∧ modes (.vssrl_vi true 8 16 7) 0xFF 0 [2, 2, 1, 1] = true
    ∧ modes (.vssra_vi true 8 16 1) 0xF5 0 [0xFB, 0xFA, 0xFA, 0xFB] = true
    ∧ modes (.vnclipu_wi true 8 16 4) 0x0018 0 [2, 2, 1, 1] = true
    ∧ modes (.vnclip_wi true 8 16 1) 0xFFF5 0 [0xFB, 0xFA, 0xFA, 0xFB] = true := by decide

/-- V-45-27, 32 with `NCLIP_SATURATES` false and true. -/
theorem test_clip : (Row.mk (.vnclipu_wi true 8 16 4) 0x1234 0 0 0x23 false).holds 0 8 .rnu false = true
    ∧ (Row.mk (.vnclipu_wi true 8 16 4) 0x1234 0 0 0xFF true).holds 0 8 .rnu true = true
    ∧ (Row.mk (.vnclip_wi true 8 16 0) 0x7FFF 0 0 0xFF false).holds 0 8 .rnu false = true
    ∧ (Row.mk (.vnclip_wi true 8 16 0) 0x7FFF 0 0 0x7F true).holds 0 8 .rnu true = true := by decide

/-- V-46-1, 3. -/
theorem test_multiply_high : allHold 0 8 [
    ⟨.vmulhu_vv true 8 16 24, 0xFF, 0xFF, 0, 0xFE, false⟩, ⟨.vmulh_vv true 8 16 24, 0x80, 0x7F, 0, 0xC0, false⟩,
    ⟨.vmulhsu_vv true 8 16 24, 0xFF, 0xFF, 0, 0xFF, false⟩] = true := by decide

/-- E5 and V-46-9, 11, 12. -/
theorem test_divide : allHold 0 8 [
    ⟨.vdivu_vv true 8 16 24, 5, 0, 0, 0xFF, false⟩, ⟨.vremu_vv true 8 16 24, 5, 0, 0, 5, false⟩,
    ⟨.vdiv_vv true 8 16 24, 0x80, 0xFF, 0, 0x80, false⟩, ⟨.vrem_vv true 8 16 24, 0x80, 0xFF, 9, 0, false⟩,
    ⟨.vdiv_vx true 8 16 10, 0xF9, 2, 0, 0xFD, false⟩, ⟨.vrem_vx true 8 16 10, 0xF9, 2, 0, 0xFF, false⟩,
    ⟨.vdivu_vx true 8 16 10, 0xF9, 2, 0, 0x7C, false⟩, ⟨.vremu_vx true 8 16 10, 0xF9, 2, 0, 1, false⟩] = true := by decide

/-- A reduction of `v16` with the seed `v24[0]` into `v8`, whose other bytes keep 0xEE. -/
def reduces (i : Instr) (vl wd seed xs want : Nat) : Bool :=
  runs i (reg 8 0xEEEEEEEEEEEEEEEEEEEEEEEEEEEEEEEE (reg 24 seed (reg 16 xs (setup 0 vl))))
    (fun t => el t wd 8 0 == want && byteAt t 8 (wd / 8) == 0xEE && byteAt t 8 15 == 0xEE && done t)

/-- V-47-1, 7 to 15 (elements written with element 0 lowest). -/
theorem test_reductions : reduces (.vredsum_vs true 8 16 24) 4 8 10 0xFA030201 0x0A = true
    ∧ reduces (.vredand_vs true 8 16 24) 2 8 0xFF 0x3CF0 0x30 = true
    ∧ reduces (.vredor_vs true 8 16 24) 2 8 0 0x8001 0x81 = true
    ∧ reduces (.vredxor_vs true 8 16 24) 2 8 0x0F 0x0FFF 0xFF = true
    ∧ reduces (.vredminu_vs true 8 16 24) 2 8 0xFF 0x7F80 0x7F = true
    ∧ reduces (.vredmin_vs true 8 16 24) 2 8 0x7F 0x7F80 0x80 = true
    ∧ reduces (.vredmaxu_vs true 8 16 24) 2 8 0 0x7F80 0x80 = true
    ∧ reduces (.vredmax_vs true 8 16 24) 2 8 0x80 0x80FF 0xFF = true
    ∧ reduces (.vwredsumu_vs true 8 16 24) 3 16 1 0xFFFFFF 0x02FE = true
    ∧ reduces (.vwredsum_vs true 8 16 24) 3 16 0 0x808080 0xFE80 = true := by decide

/-- V-47-5: the empty reduction writes its seed, and with `RED_WRITES_EMPTY` false it reads and writes nothing. -/
theorem test_empty_reduction : reduces (.vredsum_vs true 8 16 24) 0 8 7 0 7 = true
    ∧ runs (.vredsum_vs true 8 16 24) { setup 0 0 with cfg := { Config.default with redWritesEmpty := false } }
      (fun t => t.vrf == [] && !t.readUnwritten && done t) = true := by decide

/-- Words of 4 elements: `[a, b, c, d]` with element 0 first. -/
def words (a b c d : Nat) : Nat := a + b * 2 ^ 32 + c * 2 ^ 64 + d * 2 ^ 96

def permutes (i : Instr) (vl : Nat) (x : BitVec 64) (vs2 vs1 want : List Nat) : Bool :=
  let w (l : List Nat) := words (l.getD 0 0) (l.getD 1 0) (l.getD 2 0) (l.getD 3 0)
  runs i (reg 8 (w [9, 9, 9, 9]) (reg 24 (w vs1) (reg 16 (w vs2) (setX 10 x (setup 2 vl)))))
    (fun t => els t 32 8 4 == want && done t)

/-- V-48-1, 3, 5, 6, 10, 12, 13, 14, 16, 17. -/
theorem test_permutations : permutes (.vrgather_vv true 8 16 24) 4 0 [10, 20, 30, 40] [3, 0, 4, 1] [40, 10, 0, 20] = true
    ∧ permutes (.vrgather_vx true 8 16 10) 4 (-1) [1, 2, 3, 4] [] [0, 0, 0, 0] = true
    ∧ permutes (.vrgather_vx true 8 16 10) 2 3 [1, 2, 3, 4] [] [4, 4, 9, 9] = true
    ∧ permutes (.vslideup_vi true 8 16 1) 4 0 [1, 2, 3, 4] [] [9, 1, 2, 3] = true
    ∧ permutes (.vslideup_vx true 8 16 10) 4 4 [1, 2, 3, 4] [] [9, 9, 9, 9] = true
    ∧ permutes (.vslidedown_vi true 8 16 2) 1 0 [1, 2, 3, 4] [] [3, 9, 9, 9] = true
    ∧ permutes (.vslidedown_vx true 8 16 10) 4 (-1) [1, 2, 3, 4] [] [0, 0, 0, 0] = true
    ∧ permutes (.vslide1up_vx true 8 16 10) 4 7 [1, 2, 3, 4] [] [7, 1, 2, 3] = true
    ∧ permutes (.vslide1down_vx true 8 16 10) 2 7 [1, 2, 3, 4] [] [2, 7, 9, 9] = true := by decide

/-- A mask-producing command into `v1`; the want is byte 0, whose old value is 0xFF. -/
def compares (i : Instr) (vl : Nat) (x : BitVec 64) (v0 vs2 vs1 want : Nat) : Bool :=
  runs i (reg 1 0xFF (reg 0 v0 (reg 24 vs1 (reg 16 vs2 (setX 10 x (setup 0 vl))))))
    (fun t => byteAt t 1 0 == want && done t)

/-- V-49-1 to 9. -/
theorem test_compares : compares (.vmseq_vi true 1 16 2) 4 0 0 0x02030201 0 0b1010 = true
    ∧ compares (.vmsne_vi true 1 16 2) 4 0 0 0x02030201 0 0b0101 = true
    ∧ compares (.vmsltu_vx true 1 16 10) 4 5 0 0x8005FF01 0 0b0001 = true
    ∧ compares (.vmslt_vx true 1 16 10) 4 5 0 0x8005FF01 0 0b1011 = true
    ∧ compares (.vmsleu_vi true 1 16 5) 4 0 0 0x8005FF01 0 0b0101 = true
    ∧ compares (.vmsleu_vi true 1 16 31) 4 0 0 0x8005FF01 0 0b1111 = true
    ∧ compares (.vmsle_vi true 1 16 5) 4 0 0 0x8005FF01 0 0b1111 = true
    ∧ compares (.vmsgtu_vx true 1 16 10) 4 5 0 0x8005FF01 0 0b1010 = true
    ∧ compares (.vmsgt_vi true 1 16 31) 4 0 0 0x8005FF01 0 0b0101 = true := by decide

/-- V-49-13 to 17. -/
theorem test_carry_outs : compares (.vmadc_vvm 1 16 24) 3 0 1 0x01FFFF 0x010100 0b011 = true
    ∧ compares (.vmadc_vv 1 16 24) 3 0 1 0x01FFFF 0x010100 0b010 = true
    ∧ compares (.vmadc_vi 1 16 31) 2 0 0 0x0100 0 0b10 = true
    ∧ compares (.vmsbc_vvm 1 16 24) 2 0 3 0x0500 0x0500 0b11 = true
    ∧ compares (.vmsbc_vx 1 16 10) 2 1 0 0x0500 0 0b01 = true := by decide

/-- 49_compare_mask R1118: the first touch zeroes bytes 0 and 1 and leaves byte 2; V-49-18: `vd = v0`. -/
theorem test_first_touch : runs (.vmsltu_vx false 1 16 10)
      (reg 1 0xAAFFFF (reg 0 0b101010101 (reg 16 0 (setX 10 1 (setup 0 10)))))
      (fun t => [0, 1, 2].map (byteAt t 1) == [0b01010101, 1, 0xAA] && done t) = true
    ∧ runs (.vmsltu_vx false 0 16 10) (reg 0 3 (reg 16 0 (setup 0 2))) (fun t => byteAt t 0 0 == 0 && done t) = true := by
  decide

/-- V-49-11 under `byte_start`. -/
theorem test_byte_start : runs (.vmseq_vv true 1 16 24)
      { reg 1 0xFF (reg 24 0 (reg 16 0 (setup 0 3))) with
        vstart := 1, cfg := { Config.default with maskDestPolicy := .byteStart } }
      (fun t => byteAt t 1 0 == 0xFF && done t) = true := by decide

/-- V-43-13, V-40-8: an inactive element and an element below `vstart` keep their bytes. -/
theorem test_undisturbed : runs (.vadd_vi false 1 2 1) (reg 0 0b0110 (reg 1 0x44332211 (reg 2 0 (setup 0 4))))
      (fun t => els t 8 1 5 == [0x11, 1, 1, 0x44, 0] && done t) = true
    ∧ runs (.vadd_vv true 1 2 3) { reg 1 0x0909090909 (reg 2 0x01010101 (reg 3 0x02020202 (setup 0 4))) with vstart := 2 }
      (fun t => els t 8 1 5 == [9, 9, 3, 3, 9] && done t) = true := by decide

/-- Words 1, 2, 3, 4 at 0x1000, with `x10 = 0x1000`. -/
def memory (s : State) : State :=
  setMem 0x1000 [1, 0, 0, 0, 2, 0, 0, 0, 3, 0, 0, 0, 4, 0, 0, 0] (setX 10 0x1000 s)

/-- V-42-1, 2, 4, 5. -/
theorem test_loads : runs (.vle32_v true 0 1 10) (memory (setup 2 4)) (fun t => els t 32 1 4 == [1, 2, 3, 4] && done t) = true
    ∧ runs (.vle32_v false 0 1 10) (reg 0 5 (reg 1 (words 9 9 9 9) (memory (setup 2 4))))
      (fun t => els t 32 1 4 == [1, 9, 3, 9] && t.trace.map MemEvent.addr == [0x1000, 0x1008] && done t) = true
    ∧ runs (.vlse32_v true 0 1 10 11) (setX 11 (-4) (setX 10 0x100C (memory (setup 2 4))))
      (fun t => els t 32 1 4 == [4, 3, 2, 1] && done t) = true
    ∧ runs (.vlse32_v true 0 1 10 0) (memory (setup 2 4))
      (fun t => els t 32 1 4 == [1, 1, 1, 1] && t.trace.length == 4 && done t) = true := by decide

/-- V-42-7, V-42-6 (halfwords 1, 0, 2, 0 of the words) and V-42-19: the second address wraps. -/
theorem test_more_loads : runs (.vluxei8_v true 0 4 10 8) (reg 8 0x0804000C (memory (setup 2 4)))
      (fun t => els t 32 4 4 == [4, 1, 2, 3] && done t) = true
    ∧ runs (.vle16_v true 1 2 10) (setMem 0x1000 [1, 0, 2, 0, 3, 0, 4, 0] (memory (setup 1 2)))
      (fun t => els t 16 2 2 == [1, 3] && els t 16 3 2 == [2, 4] && done t) = true
    ∧ runs (.vle32_v true 0 1 10) (setX 10 (-4) (setup 2 2))
      (fun t => t.trace.map MemEvent.addr == [0xFFFFFFFFFFFFFFFC, 0] && done t) = true := by decide

/-- V-42-8 and V-42-9: a store, and a store that faults at element 2. -/
theorem test_stores : runs (.vse8_v true 0 4 10) (reg 4 0xBBAA (setX 10 0x1000 (setup 0 2)))
      (fun t => t.mem == [(0x1000, 0xAA), (0x1001, 0xBB)] && done t) = true
    ∧ runs (.vse32_v true 0 1 10) (failAt 2 .access (reg 1 (words 1 2 3 4) (setX 10 0x1000 (setup 2 4))))
      (fun t => t.result == some (.trap (.memFault true ⟨.access, 0x1008⟩)) && t.vstart == 2 && t.vl == 4
        && t.mem == [(0x1000, 1), (0x1004, 2)] && t.xcause == 7 && t.xtval == 0x1008 && t.xepc == 0x80000000
        && t.pc == 0) = true := by decide

/-- V-42-10 and V-42-11: field 0 of element 1 is transferred before the fault of field 1, and again on the resume. -/
theorem test_segment_fault : runs (.vle32_v true 1 2 10) (failAt 3 .page (reg 2 0 (reg 3 0 (memory (setup 2 2)))))
      (fun t => t.vstart == 1 && els t 32 2 4 == [1, 3, 0, 0] && els t 32 3 4 == [2, 0, 0, 0] && t.xcause == 13
        && runs (.vle32_v true 1 2 10) t.trapReturn (fun u => els u 32 2 4 == [1, 3, 0, 0] && els u 32 3 4 == [2, 4, 0, 0]
          && (u.trace.drop 4).map MemEvent.addr == [0x1008, 0x100C] && done u)) = true := by decide

/-- E6: a fault-only-first load truncates at element 3 and traps at element 0; V-42-14: a segment is written whole or not at
all. -/
theorem test_fault_only_first :
    runs (.vle32ff_v true 0 4 10) { failAt 3 .page (reg 4 0 (memory (setup 2 8))) with vlmul := 1 }
      (fun t => t.vl == 3 && els t 32 4 4 == [1, 2, 3, 0] && done t) = true
    ∧ runs (.vle32ff_v true 0 4 10) (failAt 0 .page (reg 4 0 (memory (setup 2 4))))
      (fun t => t.vl == 4 && els t 32 4 4 == [0, 0, 0, 0] && t.xcause == 13 && t.xtval == 0x1000) = true
    ∧ runs (.vle32ff_v true 1 2 10) (failAt 3 .page (reg 2 0 (reg 3 0 (memory (setup 2 4)))))
      (fun t => t.vl == 1 && els t 32 2 4 == [1, 0, 0, 0] && els t 32 3 4 == [2, 0, 0, 0] && done t) = true := by decide

/-- V-42-15 to 18: whole registers and masks, byte by byte. -/
theorem test_bytes : runs (.vl1re8_v 1 10) (memory (setup 0 0)) (fun t => els t 32 1 4 == [1, 2, 3, 4] && done t) = true
    ∧ runs (.vs2r_v 2 10) (failAt 20 .access (reg 2 0 (reg 3 0 (setX 10 0x1000 (setup 0 4)))))
      (fun t => t.vstart == 20 && t.xcause == 7 && t.trace.length == 21) = true
    ∧ runs (.vlm_v 0 10) (setMem 0x1000 [0x5A, 3, 7] (reg 0 0 (setX 10 0x1000 (setup 0 10))))
      (fun t => [0, 1, 2].map (byteAt t 0) == [0x5A, 3, 0] && done t) = true
    ∧ runs (.vsm_v 0 10) (setX 10 0x1000 (setup 0 0)) (fun t => t.trace == [] && done t) = true := by decide

/-- V-41-2, 5, 6, 7, 9, 10, 12, 14 to 16, 19, 20, 22, 23: illegal shapes change nothing but the trap registers. VLEN is 256: at
the vectors' 128 the state of V-41-10 has VLMAX 1/2, so that 10_state R112 refuses the command first (40_element_engine R400). -/
def illegalAt (vsew vlmul : BitVec 3) (i : Instr) : Bool :=
  let s := { setup vsew 0 with vlmul := vlmul, vstart := 5, cfg := { Config.default with vlenb := 32 } }
  runs i s (fun t => t == { s with result := some (.trap .illegalInstruction), xepc := s.pc, xcause := 2, pc := 0 })

theorem test_illegal_shapes : illegalAt 2 1 (.vadd_vv true 3 4 6) = true ∧ illegalAt 0 2 (.vwaddu_vv true 4 16 20) = true
    ∧ illegalAt 0 3 (.vwaddu_vv true 0 8 16) = true ∧ illegalAt 3 0 (.vwaddu_vv true 2 4 6) = true
    ∧ illegalAt 2 0 (.vzext_vf8 true 1 2) = true ∧ illegalAt 3 6 (.vsext_vf8 true 1 2) = true
    ∧ illegalAt 0 1 (.vle64_v true 0 2 10) = true ∧ illegalAt 2 1 (.vle32_v true 3 28 10) = true
    ∧ illegalAt 2 2 (.vle32_v true 2 0 10) = true ∧ illegalAt 0 0 (.vl2re32_v 3 10) = true
    ∧ illegalAt 0 1 (.vredsum_vs true 1 3 2) = true ∧ illegalAt 3 0 (.vwredsum_vs true 1 2 3) = true
    ∧ illegalAt 0 0 (.vnclipu_wi true 1 3 0) = true ∧ illegalAt 0 0 (.vluxei64_v true 0 1 10 2) = true := by decide

/-- V-41-3, 4, 8, 11, 13, 17, 18, 21, 24, 26: legal shapes. -/
theorem test_legal_shapes : legal { setup 2 0 with vlmul := 7 } (.vadd_vv true 3 5 7) = true
    ∧ legal { setup 0 0 with vlmul := 2 } (.vwaddu_vv true 8 16 20) = true
    ∧ legal { setup 1 0 with vlmul := 7 } (.vzext_vf2 true 1 2) = true
    ∧ legal { setup 2 0 with vlmul := 7 } (.vle8_v true 0 1 10) = true
    ∧ legal { setup 2 0 with vlmul := 1 } (.vle32_v true 3 24 10) = true ∧ legal (setup 0 0) (.vl2re32_v 30 10) = true
    ∧ legal { setup 0 0 with vlmul := 1 } (.vredsum_vs true 1 2 3) = true
    ∧ legal { setup 0 0 with vlmul := 2 } (.vmsltu_vx true 1 4 5) = true
    ∧ legal (setup 0 0) (.vluxei64_v true 0 1 10 8) = true
    ∧ legal { setup 3 0 with vlmul := 3 } (.vlm_v 3 10) = true := by decide

/-- V-60-7, V-60-8: a configuration instruction and a typing state with `vl` above VLMAX are refused. -/
theorem test_refused : decode 0x010572D7 = .unadmitted .configuration
    ∧ (match exec (.vadd_vv true 1 2 3) (setup 2 5) with
      | .refused r => r == .typingState
      | .next _ => false
      | .fault _ => false) = true := by decide

/-- V-43-21: `vadc.vvm` with `vm = 1` is a reserved encoding; the step takes the trap. -/
theorem test_reserved_word :
    (match step (State.reset.withFetchWord 32 0x43030257) with
      | .next t => t.xcause == 2 && t.xtval == 0x43030257 && t.pc == 0 && t.vstart == 0
      | .fault _ => false
      | .refused _ => false) = true := by decide

/-- 92 D43, 93 item 4: a reserved `funct6` (OPIVV 000001, OPMVV 001100) traps; 30_encoding R340, R341: `vrgatherei16.vv` and
`vcompress.vm` are refused. -/
theorem test_reserved_funct6 :
    (match step (State.reset.withFetchWord 32 0x06000057) with
      | .next t => t.xcause == 2 && t.xtval == 0x06000057 && t.xepc == 0x80000000 && t.pc == 0
      | .fault _ => false
      | .refused _ => false) = true
    ∧ decode 0x32002057 = .reserved .funct6 ∧ decode 0x3A000057 = .unadmitted .vrgatherei16
    ∧ decode 0x5E002057 = .unadmitted .vcompress := by decide

/-- 70_reset R1300, log 13: a reset puts the pc at the reset vector and keeps the launch address and the program. -/
theorem test_reset_keeps_the_launch :
    (((State.reset.applyAction (.launch 0x100 [0x022180D7])).applyAction .reset).pc = 0x80000000
      ∧ ((State.reset.applyAction (.launch 0x100 [0x022180D7])).applyAction .reset).launch = 0x100
      ∧ ((State.reset.applyAction (.launch 0x100 [0x022180D7])).applyAction .reset).program = [0x022180D7]) := by decide

/-- V-40-1, 2, 3, 5. -/
theorem test_addressing : State.reset.elemOffset 3 0 5 32 1 = 68 ∧ State.reset.elemOffset 8 2 1 16 1 = 194
    ∧ State.reset.elemOffset 8 1 1 8 (-1) = 145 ∧ (reg 0 0x0800 (setup 0 0)).maskAt 0 11 = true := by decide

/-- E4 and 45_fixed_point R803. -/
theorem test_roundoff : roundoff 11 1 .rne = 6 ∧ roundoff 10 1 .rdn = 5
    ∧ [RoundMode.rnu, .rne, .rdn, .rod].map (roundoff 5 1) = [3, 2, 2, 3]
    ∧ [RoundMode.rnu, .rne, .rdn, .rod].map (roundoff (-11) 1) = [-5, -6, -6, -5] := by decide

/-! ### Witnesses

`witness_<Name>` gives states and operands that meet the hypotheses of the statement `<Name>`, clause by clause. -/

/-- The outcome is a next state. -/
def isNext (o : Host.Outcome State Fault Refusal) : Bool :=
  match o with
  | .next _ => true
  | .fault _ => false
  | .refused _ => false

theorem next_of {o : Host.Outcome State Fault Refusal} (h : isNext o = true) : ∃ t, o = .next t := by
  cases o with
  | next t => exact ⟨t, rfl⟩
  | fault f => exact absurd h (by simp [isNext])
  | refused r => exact absurd h (by simp [isNext])

theorem some_of {α : Type} {o : Option α} (h : o.isSome = true) : ∃ r, o = some r := Option.isSome_iff_exists.mp h

/-- A next state for which `p` holds. -/
theorem runs_of {i : Instr} {s : State} {p : State → Bool} (h : runs i s p = true) : ∃ t, exec i s = .next t ∧ p t = true := by
  unfold runs at h
  cases ho : exec i s with
  | next t => rw [ho] at h; exact ⟨t, rfl, h⟩
  | fault f => rw [ho] at h; exact absurd h (by simp)
  | refused r => rw [ho] at h; exact absurd h (by simp)

/-- SEW 32, LMUL 1, `vl` 4, a mask of ones, words at 0x1000. -/
def ready : State := reg 0 (2 ^ 128 - 1) (memory (setup 2 4))

/-- The same with a word launched at the pc. -/
def launched (w : Nat) : State := ready.withFetchWord 32 w

theorem witness_DecodeEncode : Instr.wf (.vadd_vv false 31 31 31) = true ∧ Instr.wf (.vlse64_v false 7 31 31 31) = true := by
  decide

theorem witness_EncodeDecode : decode 0x022180D7 = .instr (.vadd_vv true 1 2 3) := by decide

/-- One word for each way to be reserved; the first and the last reserved `funct6` of OPIVV, and one of each other category. -/
theorem witness_ReservedEncodings :
    reservedWord (Fields.ofWord 0x42000057) ∧ reservedWord (Fields.ofWord 0x4A004057)
      ∧ reservedWord (Fields.ofWord 0x12000007) ∧ reservedWord (Fields.ofWord 0x02100007)
      ∧ reservedWord (Fields.ofWord 0x03000027) ∧ reservedWord (Fields.ofWord 0x00800007)
      ∧ reservedWord (Fields.ofWord 0x42800007) ∧ reservedWord (Fields.ofWord 0x22B00027)
      ∧ reservedWord (Fields.ofWord 0x02805027) ∧ reservedWord (Fields.ofWord 0x02B07007)
      ∧ reservedWord (Fields.ofWord 0x06000057) ∧ reservedWord (Fields.ofWord 0xFE000057)
      ∧ reservedWord (Fields.ofWord 0x32002057) ∧ reservedWord (Fields.ofWord 0xFE003057)
      ∧ reservedWord (Fields.ofWord 0xC2004057) ∧ reservedWord (Fields.ofWord 0x02006057) := by
  refine ⟨?_, ?_, ?_, ?_, ?_, ?_, ?_, ?_, ?_, ?_, ?_, ?_, ?_, ?_, ?_, ?_⟩ <;> (unfold reservedWord; decide)

theorem witness_StepRunsDecoded : (launched 0x022180D7).inbox = [] ∧ (launched 0x022180D7).fetch = some 0x022180D7
    ∧ decode 0x022180D7 = .instr (.vadd_vv true 1 2 3) ∧ (launched 0x022180D7).vsOn = true := by decide

/-- Clause by clause: an action waits; nothing is launched; an unadmitted word; an admitted word with the unit off. -/
theorem witness_DispatcherOutcomes : { ready with inbox := [.trapReturn] }.inbox = .trapReturn :: []
    ∧ (ready.inbox = [] ∧ ready.fetch = none)
    ∧ ((launched 0x010572D7).inbox = [] ∧ (launched 0x010572D7).fetch = some 0x010572D7
      ∧ decode 0x010572D7 = .unadmitted .configuration)
    ∧ ({ launched 0x022180D7 with vsOn := false }.inbox = []
      ∧ { launched 0x022180D7 with vsOn := false }.fetch = some 0x022180D7
      ∧ decode 0x022180D7 = .instr (.vadd_vv true 1 2 3) ∧ { launched 0x022180D7 with vsOn := false }.vsOn = false) := by
  decide

/-- The first and the last word of a program, and the largest word of the host's launch. -/
theorem witness_LaunchedProgram : 4 * [0x022180D7, 0x02218157#32].length ≤ ready.xmod
    ∧ [0x022180D7, 0x02218157#32][0]? = some 0x022180D7#32 ∧ [0x022180D7, 0x02218157#32][1]? = some 0x02218157#32
    ∧ 0xFFFFFFFF < 2 ^ 32 := by decide

theorem witness_CsrViews : 0xC20 ∉ [0x008, 0x009, 0x00A, 0x00F] ∧ 8 ≤ 8 ∧ 8 < ready.cfg.xlen.bits - 1 := by decide

/-- The default machine, and the smallest one. -/
theorem witness_ResetInvariant : Config.default.wf = true
    ∧ { Config.default with vlenb := 8, xlen := .x32, resetVector := 0 }.wf = true := by decide

theorem witness_StepKeepsInvariant : (launched 0x022180D7).inv = true ∧ ∃ t, step (launched 0x022180D7) = .next t :=
  ⟨by decide, next_of (by decide)⟩

/-- The one-byte access just past the end of the register file. -/
theorem witness_NoModelFault : Instr.wf (.vadd_vv true 1 2 3) = true ∧ ready.inv = true
    ∧ ready.vrfSize < 512 + 8 / 8 := by decide

/-- A command that is done, one that is illegal, one that faults. -/
theorem witness_CommandResults : ready.inv = true ∧ (failAt 2 .page ready).inv = true
    ∧ (Instr.wf (.vadd_vv true 1 2 3) = true ∧ ∃ t, exec (.vadd_vv true 1 2 3) ready = .next t)
    ∧ (Instr.wf (.vwadd_vv true 1 2 3) = true ∧ ∃ t, exec (.vwadd_vv true 1 2 3) ready = .next t)
    ∧ (Instr.wf (.vle32_v true 0 1 10) = true
      ∧ ∃ t, exec (.vle32_v true 0 1 10) (failAt 2 .page ready) = .next t
        ∧ (t.result == some (.trap (.memFault false ⟨.page, 0x1008⟩))) = true) :=
  ⟨by decide, by decide, ⟨by decide, next_of (by decide)⟩, ⟨by decide, next_of (by decide)⟩,
    ⟨by decide, runs_of (by decide)⟩⟩

theorem witness_EngineKeepsInputs : Instr.wf (.vadd_vv true 1 2 3) = true ∧ ready.inv = true
    ∧ ∃ t, exec (.vadd_vv true 1 2 3) ready = .next t := ⟨by decide, by decide, next_of (by decide)⟩

theorem witness_VlOnlyByFirstFault : Instr.wf (.vle32ff_v true 0 1 10) = true ∧ (failAt 1 .page ready).inv = true
    ∧ ∃ t, exec (.vle32ff_v true 0 1 10) (failAt 1 .page ready) = .next t ∧ (t.vl != (failAt 1 .page ready).vl) = true :=
  ⟨by decide, by decide, runs_of (by decide)⟩

/-- A clamp sets the flag; a set flag stays. -/
theorem witness_SaturationFlag : Instr.wf (.vsaddu_vv true 8 0 0) = true ∧ ready.inv = true
    ∧ (∃ t, exec (.vsaddu_vv true 8 0 0) ready = .next t ∧ (t.vxsat != ready.vxsat) = true)
    ∧ { ready with vxsat := true }.vxsat = true ∧ ∃ t, exec (.vadd_vv true 1 2 3) { ready with vxsat := true } = .next t :=
  ⟨by decide, by decide, runs_of (by decide), rfl, next_of (by decide)⟩

theorem witness_OnlyMemoryInstructionsReachMemory : Instr.wf (.vredsum_vs true 1 2 3) = true ∧ ready.inv = true
    ∧ reachesMemory ready (.vredsum_vs true 1 2 3) = false ∧ ∃ t, exec (.vredsum_vs true 1 2 3) ready = .next t :=
  ⟨by decide, by decide, by decide, next_of (by decide)⟩

theorem witness_ArithmeticNeverTraps : Ready ready (.vdiv_vv true 1 0 2) ∧ reachesMemory ready (.vdiv_vv true 1 0 2) = false :=
  ⟨ready_of (by decide), by decide⟩

/-- A state that meets the precondition with `vl` at VLMAX, and one whose `vl` is one above it. -/
theorem witness_TypingPrecondition : { ready with vl := 4 }.typingOk = true ∧ { ready with vl := 5 }.typingOk = false := by decide

theorem witness_EffectiveWidths : ready.typingOk = true ∧ { setup 0 0 with vlmul := 5 }.typingOk = true
    ∧ { setup 3 0 with vlmul := 3 }.typingOk = true := by decide

/-- A shape that fails, and one that passes. -/
theorem witness_IllegalShapes : (ready.typingOk = true ∧ legal ready (.vwadd_vv true 1 2 3) = false)
    ∧ Ready ready (.vwadd_vv true 2 4 5) ∧ ∃ t, exec (.vwadd_vv true 2 4 5) ready = .next t :=
  ⟨by decide, ready_of (by decide), next_of (by decide)⟩

/-- Each clause at its boundary: `vstart = vl`; `vstart` at the byte count; `vl = 0` with and without the empty write; a
reduction with `vstart = vl`. -/
theorem witness_NothingLeft :
    (Ready { ready with vstart := 4 } (.vadd_vv true 1 2 3)
      ∧ reductionRows { ready with vstart := 4 } (.vadd_vv true 1 2 3) = none
      ∧ byteRows { ready with vstart := 4 } (.vadd_vv true 1 2 3) = none ∧ (4 : Nat) ≤ 4)
    ∧ (Ready { ready with vstart := 16 } (.vl1re8_v 1 10)
      ∧ (byteRows { ready with vstart := 16 } (.vl1re8_v 1 10)).map Prod.snd = some 16 ∧ 16 ≤ 16)
    ∧ (Ready { ready with vl := 0, cfg := { Config.default with redWritesEmpty := false } } (.vredsum_vs true 1 2 3)
      ∧ (reductionRows { ready with vl := 0, cfg := { Config.default with redWritesEmpty := false } }
        (.vredsum_vs true 1 2 3)).isSome = true)
    ∧ (Ready { ready with vl := 0 } (.vredsum_vs true 1 2 3) ∧ ready.cfg.redWritesEmpty = true)
    ∧ (Ready { ready with vstart := 4 } (.vredsum_vs true 1 2 3)
      ∧ (reductionRows { ready with vstart := 4 } (.vredsum_vs true 1 2 3)).isSome = true) :=
  ⟨⟨ready_of (by decide), rfl, rfl, by decide⟩, ⟨ready_of (by decide), by decide, by decide⟩,
    ⟨ready_of (by decide), by decide⟩, ⟨ready_of (by decide), by decide⟩, ⟨ready_of (by decide), by decide⟩⟩

theorem witness_ElementAddress : 8 ∣ 8 ∧ 8 ∣ 64 := by decide

/-- The last element of the file at each width. -/
theorem witness_ElementBytes : 8 ∣ 64 ∧ Memory.wf ready.vrf = true ∧ Memory.wf ready.vrfWritten = true
    ∧ ready.elemOffset 31 0 1 64 0 + 64 / 8 = ready.vrfSize ∧ ready.elemOffset 31 0 15 8 0 + 8 / 8 = ready.vrfSize := by
  decide

theorem witness_MaskLayout : (8 * 512 - 1) / 8 < ready.vrfSize := by decide

/-- The last mask bit of the file; a byte not touched before, and one that is. -/
theorem witness_MaskDestinationWrite : Memory.wf ready.vrf = true ∧ 31 * ready.cfg.vlenb + 127 / 8 < ready.vrfSize
    ∧ 127 / 8 ∉ ready.touched ∧ 127 / 8 ∈ { ready with touched := [15] }.touched := by decide

theorem witness_MemoryPrimitives : Memory.wf ready.mem = true ∧ 8 ≤ 8 ∧ ready.nextAnswer.agents = []
    ∧ ready.nextAnswer.fault = none := by decide

/-- The smallest and the largest width, a divisor of 1, and a dividend and a divisor that do not overflow. -/
theorem witness_DivisionIdentity : 0 < 1 ∧ 0 < 64 ∧ (1#1) ≠ 0 ∧ (1#64) ≠ 0
    ∧ ¬ (1#64 = BitVec.intMin 64 ∧ 1#64 = BitVec.allOnes 64) := by decide

theorem witness_AddResults : (∃ r, addRows ready (.vadd_vv false 8 16 24) = some r) ∧ Ready ready (.vadd_vv false 8 16 24) :=
  ⟨some_of rfl, ready_of (by decide)⟩

theorem witness_LogicResults : (∃ r, logicRows ready (.vsra_vi false 8 16 31) = some r) ∧ Ready ready (.vsra_vi false 8 16 31) :=
  ⟨some_of rfl, ready_of (by decide)⟩

theorem witness_MultiplyAddResults :
    (∃ r, multiplyAddRows ready (.vmacc_vv false 8 16 24) = some r) ∧ Ready ready (.vmacc_vv false 8 16 24) :=
  ⟨some_of rfl, ready_of (by decide)⟩

theorem witness_CarryResults : (∃ r, carryRows ready (.vadc_vvm 8 16 24) = some r) ∧ Ready ready (.vadc_vvm 8 16 24) :=
  ⟨some_of rfl, ready_of (by decide)⟩

theorem witness_WideningResults :
    (∃ r, wideningRows ready (.vwadd_wv false 8 16 24) = some r) ∧ Ready ready (.vwadd_wv false 8 16 24) :=
  ⟨some_of rfl, ready_of (by decide)⟩

theorem witness_WideningMultiplyAddResults :
    (∃ r, wideningMultiplyAddRows ready (.vwmaccus_vx false 8 16 10) = some r) ∧ Ready ready (.vwmaccus_vx false 8 16 10) :=
  ⟨some_of rfl, ready_of (by decide)⟩

theorem witness_NarrowingResults :
    (∃ r, narrowingRows ready (.vnsrl_wv false 8 16 24) = some r) ∧ Ready ready (.vnsrl_wv false 8 16 24) :=
  ⟨some_of rfl, ready_of (by decide)⟩

theorem witness_ExtensionResults :
    (∃ r, extensionRows ready (.vsext_vf4 false 8 16) = some r) ∧ Ready ready (.vsext_vf4 false 8 16) :=
  ⟨some_of rfl, ready_of (by decide)⟩

theorem witness_SaturatingResults :
    (∃ r, saturatingRows ready (.vssub_vv false 8 16 24) = some r) ∧ Ready ready (.vssub_vv false 8 16 24) :=
  ⟨some_of rfl, ready_of (by decide)⟩

theorem witness_AveragingResults :
    (∃ r, averagingRows ready (.vssra_vx false 8 16 10) = some r) ∧ Ready ready (.vssra_vx false 8 16 10) :=
  ⟨some_of rfl, ready_of (by decide)⟩

theorem witness_FractionalResults :
    (∃ r, fractionalRows ready (.vnclip_wi false 8 16 31) = some r) ∧ Ready ready (.vnclip_wi false 8 16 31) :=
  ⟨some_of rfl, ready_of (by decide)⟩

theorem witness_MultiplyDivideResults :
    (∃ r, multiplyDivideRows ready (.vrem_vv false 8 16 24) = some r) ∧ Ready ready (.vrem_vv false 8 16 24) :=
  ⟨some_of rfl, ready_of (by decide)⟩

theorem witness_ReductionResults :
    (∃ r, reductionRows ready (.vwredsum_vs false 8 16 24) = some r) ∧ Ready ready (.vwredsum_vs false 8 16 24) :=
  ⟨some_of rfl, ready_of (by decide)⟩

theorem witness_PermutationResults :
    (∃ r, permutationRows ready (.vrgather_vv false 8 16 24) = some r) ∧ Ready ready (.vrgather_vv false 8 16 24) :=
  ⟨some_of rfl, ready_of (by decide)⟩

theorem witness_CompareResults :
    (∃ r, compareRows ready (.vmslt_vv false 8 16 24) = some r) ∧ Ready ready (.vmslt_vv false 8 16 24) :=
  ⟨some_of rfl, ready_of (by decide)⟩

theorem witness_CarryOutResults : (∃ r, carryOutRows ready (.vmsbc_vvm 8 16 24) = some r) ∧ Ready ready (.vmsbc_vvm 8 16 24) :=
  ⟨some_of rfl, ready_of (by decide)⟩

theorem quiet_of {s : State} (h : s.answers = []) : quiet s := by
  intro a ha
  rw [h] at ha
  cases ha

theorem witness_UnitStrideResults :
    (∃ a, unitRows ready (.vle32_v false 7 8 10) = some a) ∧ Ready ready (.vle32_v false 7 8 10) ∧ quiet ready :=
  ⟨some_of rfl, ready_of (by decide), quiet_of rfl⟩

theorem witness_StridedResults :
    (∃ a, stridedRows ready (.vsse32_v false 7 8 10 11) = some a) ∧ Ready ready (.vsse32_v false 7 8 10 11) ∧ quiet ready :=
  ⟨some_of rfl, ready_of (by decide), quiet_of rfl⟩

theorem witness_IndexedResults :
    (∃ a, indexedRows ready (.vluxei64_v false 7 8 10 16) = some a) ∧ Ready ready (.vluxei64_v false 7 8 10 16)
      ∧ quiet ready :=
  ⟨some_of rfl, ready_of (by decide), quiet_of rfl⟩

theorem witness_ByteResults : (∃ r, byteRows ready (.vl8re8_v 24 10) = some r) ∧ Ready ready (.vl8re8_v 24 10) ∧ quiet ready :=
  ⟨some_of rfl, ready_of (by decide), quiet_of rfl⟩

/-- A segment load `vlseg2e32.v v8, (x10)` whose call `k` faults. -/
def faulting (k : Nat) : State := failAt k .page ready

def segmentLoad : Access := unitAccess ready .read 5 true 1 8 10

def segmentStore : Access := unitAccess ready .write 5 true 1 8 10

def probing : Access := unitAccess ready .probe 5 true 1 8 10

/-- A load: the first field of the first element, and the last field of the last; a store: the same. -/
theorem witness_MemFaultState :
    (accessRows (faulting 0) (.vle32_v true 1 8 10) = some segmentLoad ∧ segmentLoad.call ≠ .probe
      ∧ Ready (faulting 0) (.vle32_v true 1 8 10) ∧ 0 ∈ elements (faulting 0) ∧ 0 ≤ segmentLoad.nf
      ∧ active (faulting 0) segmentLoad.vm (upTo (faulting 0) segmentLoad 0) 0 = true
      ∧ firstFault (faulting 0) (calls (faulting 0) (before (faulting 0) segmentLoad 0 0)) .page)
    ∧ (accessRows (faulting 7) (.vse32_v true 1 8 10) = some segmentStore ∧ segmentStore.call ≠ .probe
      ∧ Ready (faulting 7) (.vse32_v true 1 8 10) ∧ 3 ∈ elements (faulting 7) ∧ 1 ≤ segmentStore.nf
      ∧ active (faulting 7) segmentStore.vm (upTo (faulting 7) segmentStore 3) 3 = true
      ∧ firstFault (faulting 7) (calls (faulting 7) (before (faulting 7) segmentStore 3 1)) .page) :=
  ⟨⟨rfl, by decide, ready_of (by decide), by decide, by decide, by decide, by unfold firstFault; decide⟩,
    ⟨rfl, by decide, ready_of (by decide), by decide, by decide, by decide, by unfold firstFault; decide⟩⟩

/-- The first and the last byte of a whole-register load. -/
theorem witness_ByteFaultState :
    (∃ r, byteRows (faulting 0) (.vl1re8_v 8 10) = some r ∧ 0 ∈ byteIndices (faulting 0) r.2
      ∧ firstFault (faulting 0) (calls (faulting 0) (before (faulting 0) r.1 0 0)) .page)
    ∧ (∃ r, byteRows (faulting 15) (.vl1re8_v 8 10) = some r ∧ 15 ∈ byteIndices (faulting 15) r.2
      ∧ firstFault (faulting 15) (calls (faulting 15) (before (faulting 15) r.1 15 0)) .page)
    ∧ Ready (faulting 0) (.vl1re8_v 8 10) ∧ Ready (faulting 15) (.vl1re8_v 8 10) :=
  ⟨⟨_, rfl, by decide, by unfold firstFault; decide⟩, ⟨_, rfl, by decide, by unfold firstFault; decide⟩,
    ready_of (by decide), ready_of (by decide)⟩

/-- Each transition: element 0 at its last field; element 1 at field 0 and the last element at its last field; no fault. -/
theorem witness_FirstFaultMachine :
    (unitRows (faulting 1) (.vle32ff_v true 1 8 10) = some probing ∧ probing.call = .probe
      ∧ Ready (faulting 1) (.vle32ff_v true 1 8 10) ∧ 1 ≤ probing.nf ∧ 0 ∈ elements (faulting 1)
      ∧ active (faulting 1) probing.vm (view (faulting 1)) 0 = true
      ∧ firstFault (faulting 1) (calls (faulting 1) (before (faulting 1) probing 0 1)) .page)
    ∧ (Ready (faulting 2) (.vle32ff_v true 1 8 10) ∧ 0 < 1 ∧ 1 ∈ elements (faulting 2)
      ∧ active (faulting 2) probing.vm (upTo (faulting 2) probing 1) 1 = true
      ∧ firstFault (faulting 2) (calls (faulting 2) (before (faulting 2) probing 1 0)) .page)
    ∧ (Ready (faulting 7) (.vle32ff_v true 1 8 10) ∧ 3 ∈ elements (faulting 7)
      ∧ active (faulting 7) probing.vm (upTo (faulting 7) probing 3) 3 = true
      ∧ firstFault (faulting 7) (calls (faulting 7) (before (faulting 7) probing 3 1)) .page)
    ∧ Ready ready (.vle32ff_v true 1 8 10) ∧ quiet ready :=
  ⟨⟨rfl, by decide, ready_of (by decide), by decide, by decide, by decide, by unfold firstFault; decide⟩,
    ⟨ready_of (by decide), by decide, by decide, by decide, by unfold firstFault; decide⟩,
    ⟨ready_of (by decide), by decide, by decide, by unfold firstFault; decide⟩, ready_of (by decide), quiet_of rfl⟩

/-- The segment load of `witness_MemFaultState` at its last call, trapped, with no answer left: neither its mask nor its
addresses depend on what it writes. -/
theorem witness_ResumeIsExact :
    accessRows (faulting 7) (.vle32_v true 1 8 10) = some segmentLoad ∧ segmentLoad.call ≠ .probe
      ∧ Ready (faulting 7) (.vle32_v true 1 8 10) ∧ 3 ∈ elements (faulting 7) ∧ 1 ≤ segmentLoad.nf
      ∧ active (faulting 7) segmentLoad.vm (upTo (faulting 7) segmentLoad 3) 3 = true
      ∧ firstFault (faulting 7) (calls (faulting 7) (before (faulting 7) segmentLoad 3 1)) .page
      ∧ SourcesKept (faulting 7) segmentLoad
      ∧ ∃ t, exec (.vle32_v true 1 8 10) (faulting 7) = .next t ∧ quiet t := by
  refine ⟨rfl, by decide, ready_of (by decide), by decide, by decide, by decide, by unfold firstFault; decide,
    Or.inr (fun m _ ei _ => ⟨rfl, fun _ _ => rfl⟩), ?_⟩
  obtain ⟨t, h, hq⟩ := runs_of (i := .vle32_v true 1 8 10) (s := faulting 7) (p := fun t => t.answers == []) (by decide)
  exact ⟨t, h, quiet_of (by simpa using hq)⟩

/-- A masked widening add whose destination, sources and mask lie apart. -/
theorem witness_ParallelResults :
    ∃ r, binaryRows ready (.vwadd_vv false 8 16 24) = some r ∧ Ready ready (.vwadd_vv false 8 16 24) ∧ Separate ready r := by
  refine ⟨_, rfl, ready_of (by decide), ?_⟩
  intro ei hi ej hj _ a ha
  have hi' := List.mem_range'_1.mp (show ei ∈ List.range' 0 4 from hi)
  have hj' := List.mem_range'_1.mp (show ej ∈ List.range' 0 4 from hj)
  have ha' : 128 ≤ a ∧ a < 160 := by
    have := List.mem_range'_1.mp ha
    change 8 * 16 + ei * 8 ≤ a ∧ a < 8 * 16 + ei * 8 + 8 at this
    omega
  refine ⟨fun h => ?_, fun vs1 h1 h => ?_, fun _ => by omega⟩
  · have := List.mem_range'_1.mp h
    change 16 * 16 + ej * 4 ≤ a ∧ a < 16 * 16 + ej * 4 + 4 at this
    omega
  · cases h1
    have := List.mem_range'_1.mp h
    change 24 * 16 + ej * 4 ≤ a ∧ a < 24 * 16 + ej * 4 + 4 at this
    omega

/-- The last byte of the file, never written; and a command after such a read. -/
theorem witness_UnwrittenReads : (511 + 8 / 8 ≤ State.reset.vrfSize ∧ Memory.read State.reset.vrfWritten (511 + 0) ≠ 0xFF)
    ∧ Instr.wf (.vadd_vv true 1 2 3) = true ∧ { ready with readUnwritten := true }.inv = true
    ∧ ∃ t, exec (.vadd_vv true 1 2 3) { ready with readUnwritten := true } = .next t :=
  ⟨by decide, by decide, by decide, next_of (by decide)⟩

end Sys2Proof.Tests
end

section
/-! SUPPORT. The decoder gives well-formed instructions only. -/

namespace Sys2Proof

/-- The fields fit their places in a word (30_encoding R304, R306). -/
structure Fields.Fit (f : Fields) : Prop where
  nf : fits3 f.nf = true
  f2 : fits5 f.f2 = true
  f1 : fits5 f.f1 = true
  fd : fits5 f.fd = true

theorem Fields.ofWord_fit (w : InstrWord) : (Fields.ofWord w).Fit := by
  constructor <;> exact decide_eq_true (Nat.mod_lt _ (by omega))

section
variable {f : Fields} {i : Instr}

/-! ### What each format's instructions ask of their fields -/

theorem Fields.Fit.threeRegs (h : f.Fit) : (fits5 f.fd && fits5 f.f2 && fits5 f.f1) = true := by simp [h.fd, h.f2, h.f1]
theorem Fields.Fit.twoRegs (h : f.Fit) : (fits5 f.fd && fits5 f.f2) = true := by simp [h.fd, h.f2]
theorem Fields.Fit.regAndBase (h : f.Fit) : (fits5 f.fd && fits5 f.f1) = true := by simp [h.fd, h.f1]
theorem Fields.Fit.unitStride (h : f.Fit) : (fits3 f.nf && fits5 f.fd && fits5 f.f1) = true := by simp [h.nf, h.fd, h.f1]
theorem Fields.Fit.stridedOrIndexed (h : f.Fit) : (fits3 f.nf && fits5 f.fd && fits5 f.f1 && fits5 f.f2) = true := by
  simp [h.nf, h.fd, h.f1, h.f2]

/-! ### Format OP-V -/

theorem decodeVxunary0_wf (h : f.Fit) (hi : decodeVxunary0 f = .instr i) : i.wf = true := by
  unfold decodeVxunary0 at hi
  split at hi <;> cases hi
  all_goals exact h.twoRegs

/-- The categories whose every instruction has three register or immediate fields (30_encoding R304, R305). -/
theorem decodeThreeRegs_wf (h : f.Fit)
    (hi : decodeOpivv f = .instr i ∨ decodeOpivi f = .instr i ∨ decodeOpivx f = .instr i ∨ decodeOpmvx f = .instr i) :
    i.wf = true := by
  unfold decodeOpivv decodeOpivi decodeOpivx decodeOpmvx at hi
  rcases hi with hi | hi | hi | hi
  all_goals
    repeat' split at hi
    all_goals cases hi
    all_goals exact h.threeRegs

theorem decodeOpmvv_wf (h : f.Fit) (hi : decodeOpmvv f = .instr i) : i.wf = true := by
  unfold decodeOpmvv at hi
  split at hi
  case h_14 => exact decodeVxunary0_wf h hi
  all_goals cases hi
  all_goals exact h.threeRegs

theorem decodeOpV_wf (h : f.Fit) (hi : decodeOpV f = .instr i) : i.wf = true := by
  unfold decodeOpV at hi
  split at hi
  · exact decodeThreeRegs_wf h (.inl hi)
  · exact decodeOpmvv_wf h hi
  · exact decodeThreeRegs_wf h (.inr (.inl hi))
  · exact decodeThreeRegs_wf h (.inr (.inr (.inl hi)))
  · exact decodeThreeRegs_wf h (.inr (.inr (.inr hi)))
  · cases hi
  · cases hi

/-! ### Formats VL and VS -/

theorem decodeUnitStride_wf (h : f.Fit)
    (hi : decodeLoadUnit f = .instr i ∨ decodeLoadFirstFault f = .instr i ∨ decodeStoreUnit f = .instr i) :
    i.wf = true := by
  unfold decodeLoadUnit decodeLoadFirstFault decodeStoreUnit at hi
  rcases hi with hi | hi | hi
  all_goals
    split at hi <;> cases hi
    all_goals exact h.unitStride

theorem decodeLoadStridedOrIndexed_wf (h : f.Fit)
    (hi : decodeLoadUnordered f = .instr i ∨ decodeLoadStrided f = .instr i ∨ decodeLoadOrdered f = .instr i) :
    i.wf = true := by
  unfold decodeLoadUnordered decodeLoadStrided decodeLoadOrdered at hi
  rcases hi with hi | hi | hi
  all_goals
    split at hi <;> cases hi
    all_goals exact h.stridedOrIndexed

theorem decodeStoreStridedOrIndexed_wf (h : f.Fit)
    (hi : decodeStoreUnordered f = .instr i ∨ decodeStoreStrided f = .instr i ∨ decodeStoreOrdered f = .instr i) :
    i.wf = true := by
  unfold decodeStoreUnordered decodeStoreStrided decodeStoreOrdered at hi
  rcases hi with hi | hi | hi
  all_goals
    split at hi <;> cases hi
    all_goals exact h.stridedOrIndexed

theorem decodeWhole_wf (h : f.Fit) (hi : decodeLoadWhole f = .instr i ∨ decodeStoreWhole f = .instr i) :
    i.wf = true := by
  unfold decodeLoadWhole decodeStoreWhole at hi
  rcases hi with hi | hi
  all_goals
    repeat' split at hi
    all_goals cases hi
    all_goals exact h.regAndBase

/-- A mask access decodes to the instruction the decoder hands it, or to none. -/
theorem eq_of_decodeMaskMemory {j : Instr} (hi : decodeMaskMemory j f = .instr i) : i = j := by
  unfold decodeMaskMemory at hi
  repeat' split at hi
  all_goals cases hi
  rfl

theorem decodeLoad_wf (h : f.Fit) (hi : decodeLoad f = .instr i) : i.wf = true := by
  unfold decodeLoad at hi
  repeat' split at hi
  · exact decodeUnitStride_wf h (.inl hi)
  · exact decodeWhole_wf h (.inl hi)
  · exact eq_of_decodeMaskMemory hi ▸ h.regAndBase
  · exact decodeUnitStride_wf h (.inr (.inl hi))
  · cases hi
  · exact decodeLoadStridedOrIndexed_wf h (.inl hi)
  · exact decodeLoadStridedOrIndexed_wf h (.inr (.inl hi))
  · exact decodeLoadStridedOrIndexed_wf h (.inr (.inr hi))
  · cases hi
  · cases hi

theorem decodeStore_wf (h : f.Fit) (hi : decodeStore f = .instr i) : i.wf = true := by
  unfold decodeStore at hi
  repeat' split at hi
  · exact decodeUnitStride_wf h (.inr (.inr hi))
  · exact decodeWhole_wf h (.inr hi)
  · exact eq_of_decodeMaskMemory hi ▸ h.regAndBase
  · cases hi
  · exact decodeStoreStridedOrIndexed_wf h (.inl hi)
  · exact decodeStoreStridedOrIndexed_wf h (.inr (.inl hi))
  · exact decodeStoreStridedOrIndexed_wf h (.inr (.inr hi))
  · cases hi
  · cases hi

end

/-- Every instruction the decoder reads off a word is well-formed (30_encoding R304 to R312). -/
theorem decode_wf {w : InstrWord} {i : Instr} (hi : decode w = .instr i) : i.wf = true := by
  have h := Fields.ofWord_fit w
  unfold decode decodeFields at hi
  split at hi
  · exact decodeOpV_wf h hi
  · exact decodeLoad_wf h hi
  · exact decodeStore_wf h hi
  · cases hi

end Sys2Proof
end

section
/-! SUPPORT. How a command ends and what a step can be, said once; the rules every command keeps follow from these. -/

namespace Sys2Proof.Reference

open Sys2Proof.Machine

/-! ### The states inside a command -/

/-- What a command can only raise: the sticky flag (10_state R111), the note of an unwritten read (log 2) and the cursor
(40_element_engine R406, R407). -/
structure Raised (e : Effects) (s0 s : State) : Prop where
  vxsat : s0.vxsat = true → s.vxsat = true
  vxsat_eq : e.sat = false → s.vxsat = s0.vxsat
  readUnwritten : s0.readUnwritten = true → s.readUnwritten = true
  vstart_ge : s0.vstart ≤ s.vstart
  vstart_lt : s.vstart = s0.vstart ∨ s.vstart < cursorBound s0

theorem Within.raised {e : Effects} {s0 s : State} (h : Within e s0 s) : Raised e s0 s := by
  induction h with
  | start => exact ⟨id, fun _ => rfl, id, Nat.le_refl _, .inl rfl⟩
  | pin k _ hge hlt ih => exact ⟨ih.vxsat, ih.vxsat_eq, ih.readUnwritten, hge, .inr hlt⟩
  | noteRead _ _ _ ih =>
    exact ⟨ih.vxsat, ih.vxsat_eq, fun h0 => by simp [ih.readUnwritten h0], ih.vstart_ge, ih.vstart_lt⟩
  | orSat _ _ he ih =>
    exact ⟨fun h0 => by simp [ih.vxsat h0], fun h0 => by simp [h0] at he, ih.readUnwritten, ih.vstart_ge, ih.vstart_lt⟩
  | @settle s vd _ _ ih =>
    obtain ⟨vrf, draws, hs⟩ := settleMask_fixed s vd
    rw [hs]
    exact ⟨ih.vxsat, ih.vxsat_eq, ih.readUnwritten, ih.vstart_ge, ih.vstart_lt⟩
  | putBytes _ _ _ _ _ ih => exact ⟨ih.vxsat, ih.vxsat_eq, ih.readUnwritten, ih.vstart_ge, ih.vstart_lt⟩
  | putMaskBit _ _ _ _ _ _ ih => exact ⟨ih.vxsat, ih.vxsat_eq, ih.readUnwritten, ih.vstart_ge, ih.vstart_lt⟩
  | takeAnswer _ _ ih => exact ⟨ih.vxsat, ih.vxsat_eq, ih.readUnwritten, ih.vstart_ge, ih.vstart_lt⟩
  | record _ _ _ ih => exact ⟨ih.vxsat, ih.vxsat_eq, ih.readUnwritten, ih.vstart_ge, ih.vstart_lt⟩
  | write _ _ _ _ _ ih => exact ⟨ih.vxsat, ih.vxsat_eq, ih.readUnwritten, ih.vstart_ge, ih.vstart_lt⟩
  | pend _ _ _ _ ih => exact ⟨ih.vxsat, ih.vxsat_eq, ih.readUnwritten, ih.vstart_ge, ih.vstart_lt⟩

/-! ### The ends of a command -/

/-- The next states of a command with effects `e`: the trap of a failed shape check (41_shape R451), normal completion
(40_element_engine R408), a truncation to element `k` (42_memory_access R520), and a delivered memory fault (R505). -/
inductive Ends (e : Effects) (s : State) : State → Prop
  | illegal : Ends e s (s.takeTrap .illegalInstruction)
  | completed {u : State} : Within e s u → Ends e s u.complete
  | truncated {u : State} (k : Nat) : e.cut = true → Within e s u → s.vstart ≤ k → 0 < k → k < s.vl →
      Ends e s { u with vl := k, ffPending := none }.complete
  | faulted {u : State} (info : FaultInfo) : e.call = true → Within e s u → info.addr < s.xmod →
      Ends e s (u.takeTrap (.memFault e.store info))

theorem exec_ends {i : Instr} {s t : State} (hw : i.wf = true) (hc : s.cfg.wf = true) (h : exec i s = .next t) :
    Ends (effects s.cfg i) s t := by
  rcases exec_outcomes hw hc with ⟨-, ho⟩ | ⟨-, ho⟩ | ⟨-, r, hr, ho⟩ <;> rw [ho] at h
  · cases h
  · cases h; exact .illegal
  · match r with
    | .ok u => cases h; exact .completed hr.1
    | .error (.finished u) =>
      obtain ⟨hcut, u, k, hu, hk, hpos, hlt, rfl⟩ := hr
      cases h; exact .truncated k hcut hu hk hpos hlt
    | .error (.trap _ u) =>
      obtain ⟨hu, -, -, hcall, info, rfl, haddr⟩ := hr
      cases h; exact .faulted info hcall hu haddr
    | .error (.fault _) => cases hr

/-- Whatever its end, a command leaves a state it passed through, its hidden state discarded, with only `vl`, the cursor, the
result, the pc and the trap registers set. -/
theorem Ends.from_within {e : Effects} {s t : State} (h : Ends e s t) :
    ∃ u vl vstart result pc xepc xcause xtval, Within e s u ∧ t = { u.clearHidden with
      vl := vl, vstart := vstart, result := result, pc := pc, xepc := xepc, xcause := xcause, xtval := xtval } := by
  cases h with
  | illegal => exact ⟨_, _, _, _, _, _, _, _, .start, rfl⟩
  | completed hu => exact ⟨_, _, _, _, _, _, _, _, hu, rfl⟩
  | truncated k _ hu => exact ⟨_, _, _, _, _, _, _, _, hu, rfl⟩
  | faulted info _ hu => exact ⟨_, _, _, _, _, _, _, _, hu, rfl⟩

/-! ### The table of effects -/

theorem effects_sat (c : Config) (i : Instr) : (effects c i).sat = Claims.maySaturate c i := by
  cases i <;> rfl

theorem effects_cut (s : State) (i : Instr) : (effects s.cfg i).cut = Claims.isFirstFault s i := by
  cases i <;> rfl

/-- No instruction both saturates and calls the memory port. -/
theorem effects_call_sat (c : Config) (i : Instr) : ((effects c i).call && (effects c i).sat) = false := by
  cases i <;> rfl

end Sys2Proof.Reference

namespace Sys2Proof.Machine

/-! ### Every instruction is one command -/

/-- Every instruction, well-formed or not, runs the checks of a command first (40_element_engine R400). -/
theorem exec_checks (i : Instr) (s : State) : ∃ (shapesOk : Bool) (r : Run State), exec i s =
    if s.typingOk then if shapesOk then finish r else .next (s.takeTrap .illegalInstruction)
    else .refused .typingState := by
  cases i <;> exact ⟨_, _, rfl⟩

theorem finish_ne_refused (r : Run State) (why : Refusal) : finish r ≠ .refused why := by
  match r with
  | .ok _ | .error (.finished _) | .error (.trap _ _) | .error (.fault _) => exact nofun

/-- A command is refused exactly for its typing state, whatever the instruction (10_state R112). -/
theorem exec_refused_iff (i : Instr) (s : State) : exec i s = .refused .typingState ↔ s.typingOk = false := by
  obtain ⟨shapesOk, r, h⟩ := exec_checks i s
  rw [h]
  cases s.typingOk with
  | false => simp
  | true => cases shapesOk <;> simp [finish_ne_refused]

/-! ### What a step can be -/

/-- The dispatcher calls the engine for a decoded instruction only (30_encoding R350, 60_exceptions R1201). -/
theorem State.decode_of_issue {s : State} {w : InstrWord} {i : Instr} (h : s.issue w = .ok i) : decode w = .instr i := by
  unfold State.issue at h
  split at h
  · cases h
  · cases h
  next hd => split at h <;> cases h; exact hd

/-- Where the dispatcher does not call the engine it refuses the word or takes the trap itself (60_exceptions R1207). -/
theorem State.issue_error {s : State} {w : InstrWord} {o : Host.Outcome State Fault Refusal} (h : s.issue w = .error o) :
    (∃ u, o = .refused (.unadmitted u)) ∨ o = .next (s.takeTrap .illegalInstruction) := by
  unfold State.issue at h
  split at h
  next u _ => cases h; exact .inl ⟨u, rfl⟩
  next => cases h; exact .inr rfl
  next => split at h <;> cases h; exact .inr rfl

/-- What a step that gives a next state was: a collaborator's action, the dispatcher's own trap, or a command
(60_exceptions R1207, R1220, R1240). -/
theorem step_cases {s t : State} (h : step s = .next t) :
    (∃ a rest, s.inbox = a :: rest ∧ t = { s with inbox := rest }.applyAction a)
      ∨ t = s.takeTrap .illegalInstruction
      ∨ ∃ i : Instr, i.wf = true ∧ exec i s = .next t := by
  unfold step at h
  split at h
  next a rest hin => cases h; exact .inl ⟨a, rest, hin, rfl⟩
  next =>
    split at h
    next => cases h
    next w _ =>
      split at h
      next o ho =>
        subst h
        rcases State.issue_error ho with ⟨u, hu⟩ | ht
        · cases hu
        · cases ht; exact .inr (.inl rfl)
      next i hi => exact .inr (.inr ⟨i, decode_wf (State.decode_of_issue hi), h⟩)

end Sys2Proof.Machine
end

section
/-! SUPPORT. The invariant field by field, and that commands, traps and collaborator actions keep it. -/

namespace Sys2Proof.Machine

open Sys2Proof.Reference

/-- The invariant with its parts named (`State.inv_iff`). -/
structure State.Invariant (s : State) : Prop where
  cfg : s.cfg.wf = true
  vrf : s.vrf.fits s.vrfSize = true
  marks : s.vrfWritten.fits s.vrfSize = true
  mem : s.mem.fits s.xmod = true
  hidden : s.hiddenEmpty = true
  x : s.x.length = 32
  vl : s.vl < s.xmod
  vstart : s.vstart < s.xmod
  pc : s.pc < s.xmod
  launch : s.launch < s.xmod
  xepc : s.xepc < s.xmod
  xtvec : s.xtvec < s.xmod
  xcause : s.xcause < s.xmod
  xtval : s.xtval < s.xmod

theorem State.inv_iff {s : State} : s.inv = true ↔ s.Invariant := by
  simp only [State.inv, Bool.and_eq_true, beq_iff_eq, decide_eq_true_eq, and_assoc]
  exact ⟨fun ⟨h1, h2, h3, h4, h5, h6, h7, h8, h9, h10, h11, h12, h13, h14⟩ =>
      ⟨h1, h2, h3, h4, h5, h6, h7, h8, h9, h10, h11, h12, h13, h14⟩,
    fun ⟨h1, h2, h3, h4, h5, h6, h7, h8, h9, h10, h11, h12, h13, h14⟩ =>
      ⟨h1, h2, h3, h4, h5, h6, h7, h8, h9, h10, h11, h12, h13, h14⟩⟩

theorem State.inv_cfg {s : State} (h : s.inv = true) : s.cfg.wf = true := (State.inv_iff.mp h).cfg

/-! ### Numbers of XLEN bits -/

theorem State.bits_ge (s : State) : 32 ≤ s.cfg.xlen.bits := by cases s.cfg.xlen <;> decide

theorem State.two_pow_le_xmod (s : State) : 2 ^ 32 ≤ s.xmod := Nat.pow_le_pow_right (by omega) s.bits_ge

theorem State.mod_xmod_lt (s : State) (n : Nat) : n % s.xmod < s.xmod :=
  Nat.mod_lt _ (by have := s.two_pow_le_xmod; omega)

theorem Trap.cause_lt (t : Trap) : t.cause < 16 := by
  unfold Trap.cause
  split <;> decide

theorem State.trapValue_illegal_lt (s : State) : s.trapValue .illegalInstruction < s.xmod := by
  refine Nat.lt_of_lt_of_le ?_ s.two_pow_le_xmod
  have hw : (s.fetch.map BitVec.toNat).getD 0 < 2 ^ 32 := by
    cases s.fetch with
    | none => decide
    | some w => exact w.isLt
  show (if s.cfg.illegalTvalIsWord then (s.fetch.map BitVec.toNat).getD 0 else 0) < 2 ^ 32
  split
  · exact hw
  · decide

/-- Every cursor value of a command fits `vstart` (10_state R113). -/
theorem State.Invariant.cursorBound_le {s : State} (h : s.Invariant) : cursorBound s ≤ s.xmod := by
  have hc := h.cfg
  simp only [Config.wf, Bool.and_eq_true, decide_eq_true_eq] at hc
  obtain ⟨⟨⟨-, -⟩, hv⟩, -⟩ := hc
  exact Nat.max_le.mpr ⟨Nat.le_of_lt h.vl, hv⟩

/-! ### Commands and traps -/

/-- Inside a command everything but the hidden state keeps the invariant. -/
theorem State.Invariant.within {e : Effects} {s u : State} (h : s.Invariant) (hu : Within e s u) :
    u.clearHidden.Invariant := by
  have hf := hu.fixed
  have hs := hu.stores h.vrf h.marks h.mem
  have hv : u.clearHidden.vrfSize = s.vrfSize := hf.vrfSize
  have hx : u.clearHidden.xmod = s.xmod := hf.xmod
  have lt {a b : Nat} (hab : a = b) (hb : b < s.xmod) : a < u.clearHidden.xmod := by rw [hx, hab]; exact hb
  have hvstart : u.vstart < s.xmod :=
    hu.raised.vstart_lt.elim (fun hk => hk ▸ h.vstart) (fun hk => Nat.lt_of_lt_of_le hk h.cursorBound_le)
  exact {
    cfg := hf.cfg ▸ h.cfg
    vrf := hv ▸ hs.vrf
    marks := hv ▸ hs.marks
    mem := hx ▸ hs.mem
    hidden := rfl
    x := hf.x ▸ h.x
    vl := lt hf.vl h.vl
    vstart := lt rfl hvstart
    pc := lt hf.pc h.pc
    launch := lt hf.launch h.launch
    xepc := lt hf.xepc h.xepc
    xtvec := lt hf.xtvec h.xtvec
    xcause := lt hf.xcause h.xcause
    xtval := lt hf.xtval h.xtval }

theorem State.Invariant.takeTrap {u : State} {t : Trap} (h : u.clearHidden.Invariant) (ht : u.trapValue t < u.xmod) :
    (u.takeTrap t).Invariant :=
  have hc : t.cause < u.xmod := Nat.lt_of_lt_of_le t.cause_lt (Nat.le_trans (by decide) u.two_pow_le_xmod)
  { h with pc := h.xtvec, xepc := h.pc, xcause := hc, xtval := ht }

theorem State.Invariant.complete {u : State} (h : u.clearHidden.Invariant) : u.complete.Invariant :=
  have hpc : u.complete.pc < u.xmod := by rw [State.complete_pc]; exact addr_lt u _
  { h with vstart := Nat.lt_of_le_of_lt (Nat.zero_le _) h.vstart, pc := hpc }

theorem State.Invariant.illegal {s : State} (h : s.Invariant) : (s.takeTrap .illegalInstruction).Invariant :=
  (h.within (e := {}) .start).takeTrap s.trapValue_illegal_lt

theorem State.Invariant.ends {e : Effects} {s t : State} (h : s.Invariant) (ht : Ends e s t) : t.Invariant := by
  cases ht with
  | illegal => exact h.illegal
  | completed hu => exact (h.within hu).complete
  | @truncated u k _ hu _ _ hk =>
    have hw := h.within hu
    have hvl : k < u.xmod := hu.fixed.xmod ▸ Nat.lt_trans hk h.vl
    exact State.Invariant.complete { hw with vl := hvl }
  | @faulted u info _ hu haddr => exact (h.within hu).takeTrap (hu.fixed.xmod ▸ haddr)

/-! ### Collaborators (60_exceptions R1240) -/

theorem State.Invariant.csrWrite {s : State} (h : s.Invariant) (num value : Nat) : (s.csrWrite num value).Invariant := by
  unfold State.csrWrite
  repeat' split
  · exact { h with vstart := s.mod_xmod_lt _ }
  all_goals exact { h with }

theorem State.Invariant.putByte {s : State} (h : s.Invariant) {off : Nat} (ho : off < s.vrfSize) (v : Nat) :
    (s.putBytes [off] v).Invariant :=
  have hoff : ∀ a ∈ [off], a < s.vrfSize := by simpa using ho
  { h with vrf := Memory.fits_writeList _ _ h.vrf hoff, marks := Memory.fits_fill _ _ h.marks hoff }

theorem State.Invariant.resetEngine {s : State} (h : s.Invariant) : s.resetEngine.Invariant := by
  have hc := h.cfg
  have h0 : 0 < s.xmod := Nat.lt_of_le_of_lt (Nat.zero_le _) h.vl
  simp only [Config.wf, Bool.and_eq_true, decide_eq_true_eq] at hc
  obtain ⟨-, hreset⟩ := hc
  exact { h with vrf := rfl, marks := rfl, hidden := rfl, vl := h0, vstart := h0, pc := hreset }

theorem State.Invariant.applyAction {s : State} (h : s.Invariant) (a : CollabAction) : (s.applyAction a).Invariant := by
  cases a with
  | csrWrite num value => exact h.csrWrite num value
  | configure vsew vlmul vta vma vill vl => exact { h with vl := s.mod_xmod_lt vl }
  | writeX r value =>
    have hx : (if r = 0 then s.x else s.x.set r value).length = 32 := by split <;> simp [h.x]
    exact { h with x := hx }
  | writeVrf off value =>
    show (if off < s.vrfSize then s.putBytes [off] value.toNat else s).Invariant
    split
    next ho => exact h.putByte ho _
    next => exact h
  | enableVector on => exact { h with }
  | setTrapVector addr => exact { h with xtvec := s.mod_xmod_lt addr }
  | trapReturn => exact { h with pc := h.xepc }
  | launch addr words => exact { h with launch := s.mod_xmod_lt addr, pc := s.mod_xmod_lt addr }
  | reset => exact h.resetEngine

end Sys2Proof.Machine
end

section
/-! The whole-machine rules of 10_state: what a step keeps and what a command may change. -/

namespace Sys2Proof.Machine

open Sys2Proof.Reference

/-- Settles O11: a step is an action, a dispatcher's trap or a command, and each keeps the invariant. -/
theorem stepKeepsInvariant : Obligations.StepKeepsInvariant := by
  intro s t hs ht
  have h := State.inv_iff.mp hs
  refine State.inv_iff.mpr ?_
  rcases step_cases ht with ⟨a, rest, -, rfl⟩ | rfl | ⟨i, hw, hi⟩
  · have hrest : State.Invariant { s with inbox := rest } := { h with }
    exact hrest.applyAction a
  · exact h.illegal
  · exact h.ends (exec_ends hw h.cfg hi)

/-- Settles O14: a command ends in a state it passed through, with its hidden state discarded. -/
theorem engineKeepsInputs : Obligations.EngineKeepsInputs := by
  intro i s t hw hs ht
  obtain ⟨u, vl, vstart, result, pc, xepc, xcause, xtval, hu, rfl⟩ := (exec_ends hw (State.inv_cfg hs) ht).from_within
  have hf := hu.fixed
  exact ⟨hf.cfg, hf.vsew, hf.vlmul, hf.vta, hf.vma, hf.vill, hf.vxrm, hf.x, hf.launch, hf.program, hf.vsOn, hf.xtvec,
    hf.inbox, rfl, rfl, rfl⟩

/-- Settles O15: of the ends of a command only a truncation sets `vl`. -/
theorem vlOnlyByFirstFault : Obligations.VlOnlyByFirstFault := by
  intro i s t hw hs ht hne
  cases exec_ends hw (State.inv_cfg hs) ht with
  | illegal => exact absurd rfl hne
  | completed hu => exact absurd hu.fixed.vl hne
  | faulted _ _ hu _ => exact absurd hu.fixed.vl hne
  | truncated k hcut hu hge hpos hlt =>
    have hk : k ∈ elements s := List.mem_range'_1.mpr ⟨hge, by omega⟩
    exact ⟨effects_cut s i ▸ hcut, rfl, hpos, hk⟩

/-- Settles O16: the flag is sticky inside a command, and an instruction that may set it makes no memory call, so it does not
trap once an element has run. -/
theorem saturationFlag : Obligations.SaturationFlag := by
  intro i s t hw hs ht
  have hend := exec_ends hw (State.inv_cfg hs) ht
  constructor
  · obtain ⟨u, vl, vstart, result, pc, xepc, xcause, xtval, hu, rfl⟩ := hend.from_within
    exact hu.raised.vxsat
  · intro hne
    have hsat {u : State} (hu : Within (effects s.cfg i) s u) (hne : u.vxsat ≠ s.vxsat) :
        (effects s.cfg i).sat = true := by
      by_contra h
      exact hne (hu.raised.vxsat_eq (by simpa using h))
    rw [← effects_sat]
    cases hend with
    | illegal => exact absurd rfl hne
    | completed hu => exact ⟨hsat hu hne, rfl⟩
    | truncated _ _ hu => exact ⟨hsat hu hne, rfl⟩
    | faulted _ hcall hu _ =>
      have := effects_call_sat s.cfg i
      simp [hcall, hsat hu hne] at this

/-- Noting a read of a byte with an unmarked bit raises the model's bit (log 2). -/
theorem noteRead_of_unwritten {s : State} {offs : List Nat} (h : ∃ o ∈ offs, Memory.read s.vrfWritten o ≠ 0xFF) :
    s.noteRead offs 0xFF = { s with readUnwritten := true } := by
  have hand (b : Byte) : b &&& 0xFF = b := BitVec.and_allOnes
  have hany : offs.any (fun o => Memory.read s.vrfWritten o &&& 0xFF != 0xFF) = true := by
    simpa only [List.any_eq_true, bne_iff_ne, hand] using h
  unfold State.noteRead
  rw [hany, Bool.or_true]

/-- Settles O58: an unmarked byte raises the model's bit, and the bit is sticky inside a command (log 2). -/
theorem unwrittenReads : Obligations.UnwrittenReads := by
  constructor
  · rintro s w off hin ⟨k, hk, hbyte⟩
    have hread : ∃ o ∈ byteOffsets off (w / 8), Memory.read s.vrfWritten o ≠ 0xFF :=
      ⟨off + k, List.mem_range'_1.mpr ⟨by omega, by omega⟩, hbyte⟩
    exact ⟨s.elemAt w off, by rw [vreadAt, if_pos hin, noteRead_of_unwritten hread]⟩
  · intro i s t hw hs ht hbad
    obtain ⟨u, vl, vstart, result, pc, xepc, xcause, xtval, hu, rfl⟩ := (exec_ends hw (State.inv_cfg hs) ht).from_within
    exact hu.raised.readUnwritten hbad

end Sys2Proof.Machine
end

section
/-! The typing state in exact arithmetic (10_state R105 to R107, R112). -/

namespace Sys2Proof.Machine

open Sys2Proof.Claims

theorem State.lmulLog_ge {s : State} (h : s.vlmul ≠ 4) : -3 ≤ s.lmulLog := by
  have : ∀ e : BitVec 3, e ≠ 4 → -3 ≤ e.toInt := by decide
  exact this _ h

/-- LMUL is the value of its encoding (10_state R106). -/
theorem State.two_zpow_lmulLog {s : State} (h : s.vlmul ≠ 4) : (2 : ℚ) ^ s.lmulLog = lmul s.vlmul := by
  have cases8 : ∀ e : BitVec 3, e ≠ 4 → e = 0 ∨ e = 1 ∨ e = 2 ∨ e = 3 ∨ e = 5 ∨ e = 6 ∨ e = 7 := by decide
  unfold State.lmulLog
  rcases cases8 s.vlmul h with h | h | h | h | h | h | h <;> rw [h] <;> simp [lmul] <;> norm_num

/-- SEW in bits (10_state R105). -/
theorem State.cast_sew (s : State) : (s.sew : ℚ) = 8 * 2 ^ s.vsew.toNat := by
  rw [State.sew, State.sewLog, pow_add, mul_comm]
  push_cast
  norm_num

theorem State.sew_pos (s : State) : 0 < s.sew := by unfold State.sew; positivity

/-- `LMUL * VLEN`, exactly. -/
theorem State.cast_groupBits {s : State} (h : s.vlmul ≠ 4) : (s.groupBits : ℚ) = lmul s.vlmul * vlen s := by
  have hexp : ((s.lmulLog + 3).toNat : ℤ) = s.lmulLog + 3 := Int.toNat_of_nonneg (by have := State.lmulLog_ge h; omega)
  have hpow : (2 : ℚ) ^ (s.lmulLog + 3).toNat = lmul s.vlmul * 8 := by
    rw [← zpow_natCast, hexp, zpow_add₀ two_ne_zero, State.two_zpow_lmulLog h]
    norm_num
  rw [State.groupBits, Nat.cast_mul, Nat.cast_pow, Nat.cast_ofNat, hpow, vlen, mul_assoc]

/-- An exact quotient of naturals is an integer just where the division leaves no rest. -/
theorem natCast_eq_div_iff {a b n : ℕ} (hb : 0 < b) : (n : ℚ) = a / b ↔ a % b = 0 ∧ n = a / b := by
  have hb' : (b : ℚ) ≠ 0 := by positivity
  rw [eq_div_iff hb', ← Nat.cast_mul, Nat.cast_inj]
  constructor
  · rintro rfl
    exact ⟨Nat.mul_mod_left _ _, (Nat.mul_div_cancel _ hb).symm⟩
  · rintro ⟨hmod, rfl⟩
    exact Nat.div_mul_cancel (Nat.dvd_of_mod_eq_zero hmod)

/-- The typing precondition of 10_state R112, with VLMAX an exact number. -/
theorem State.typingOk_iff (s : State) : s.typingOk = true ↔
    s.vsew ∈ [0, 1, 2, 3] ∧ s.vlmul ≠ 4 ∧ s.vill = false
      ∧ ∃ n : ℕ, (n : ℚ) = lmul s.vlmul * vlen s / (8 * 2 ^ s.vsew.toNat) ∧ 1 ≤ n ∧ s.vl ≤ n := by
  have hsew : ∀ e : BitVec 3, e.toNat < 4 ↔ e ∈ [0, 1, 2, 3] := by decide
  simp only [State.typingOk, Bool.and_eq_true, decide_eq_true_eq, bne_iff_ne, ne_eq, Bool.not_eq_true',
    beq_iff_eq, and_assoc, hsew]
  refine and_congr_right fun _ => and_congr_right fun hm => and_congr_right fun _ => ?_
  rw [← State.cast_groupBits hm, ← s.cast_sew]
  simp only [natCast_eq_div_iff s.sew_pos]
  constructor
  · rintro ⟨hmod, h1, hl⟩
    exact ⟨_, ⟨hmod, rfl⟩, h1, hl⟩
  · rintro ⟨n, ⟨hmod, rfl⟩, h1, hl⟩
    exact ⟨hmod, h1, hl⟩

/-- Settles O19: every instruction checks the precondition first, and nothing later refuses for it. -/
theorem typingPrecondition : Obligations.TypingPrecondition := by
  intro i s
  rw [exec_refused_iff, ← s.typingOk_iff, Bool.not_eq_true]

/-- Settles O20: VLMAX is the integer of the precondition, and EMUL's exponent is a sum of logarithms. -/
theorem effectiveWidths : Obligations.EffectiveWidths := by
  intro s ht
  obtain ⟨-, hm, -, n, hn, -, -⟩ := s.typingOk_iff.mp ht
  have hlmul := State.two_zpow_lmulLog hm
  refine ⟨s.cast_sew, hlmul, ?_, fun e => ?_⟩
  · rw [← s.cast_sew, ← State.cast_groupBits hm] at hn
    rw [← State.cast_groupBits hm, ← hn, ((natCast_eq_div_iff s.sew_pos).mp hn).2]
    rfl
  · have hlog : (2 : ℚ) ^ (s.sewLog : ℤ) = s.sew := by rw [State.sew, zpow_natCast]; push_cast; rfl
    rw [State.emulLog, zpow_add₀ two_ne_zero, zpow_sub₀ two_ne_zero, zpow_natCast, hlog, hlmul]

end Sys2Proof.Machine
end

section
/-! The CSR view of the typing state (10_state R113) and the reset values (R121). -/

namespace Sys2Proof.Machine

/-! ### The CSR view (10_state R113) -/

/-- The rounding mode reads back as the two bits that set it (10_state R110). -/
@[simp] theorem RoundMode.code_ofBits (n : Nat) : (RoundMode.ofBits n).code = n % 4 := by
  unfold RoundMode.ofBits
  repeat' split
  all_goals simp only [RoundMode.code]; omega

theorem toNat_mod_two_beq_one (v : Nat) : (v % 2 == 1).toNat = v % 2 := by
  rcases Nat.mod_two_eq_zero_or_one v with h | h <;> simp [h]

theorem State.csrWrite_other (s : State) {n : Nat} (v : Nat) (h : n ∉ [0x008, 0x009, 0x00A, 0x00F]) :
    s.csrWrite n v = s := by
  simp only [List.mem_cons, List.not_mem_nil, or_false, not_or] at h
  obtain ⟨h8, h9, hA, hF⟩ := h
  rw [State.csrWrite, if_neg h8, if_neg h9, if_neg hA, if_neg hF]

/-- The bits of `vtype` below `vill`. -/
def State.vtypeLow (s : State) : Nat := s.vlmul.toNat + 8 * s.vsew.toNat + 64 * s.vta.toNat + 128 * s.vma.toNat

theorem State.vtypeLow_lt (s : State) : s.vtypeLow < 2 ^ 8 := by
  have := s.vlmul.isLt
  have := s.vsew.isLt
  have := s.vta.toNat_lt
  have := s.vma.toNat_lt
  unfold State.vtypeLow
  omega

theorem State.vtype_eq (s : State) : s.vtype = 2 ^ (s.cfg.xlen.bits - 1) * s.vill.toNat + s.vtypeLow :=
  Nat.add_comm _ _

theorem State.vtypeLow_lt_top (s : State) : s.vtypeLow < 2 ^ (s.cfg.xlen.bits - 1) :=
  Nat.lt_of_lt_of_le s.vtypeLow_lt (Nat.pow_le_pow_right (by omega) (by have := s.bits_ge; omega))

theorem State.testBit_vtype (s : State) {k : Nat} (hk : k < s.cfg.xlen.bits - 1) :
    s.vtype.testBit k = s.vtypeLow.testBit k := by
  rw [s.vtype_eq, Nat.testBit_two_pow_mul_add _ s.vtypeLow_lt_top, if_pos hk]

theorem State.testBit_vtype_top (s : State) : s.vtype.testBit (s.cfg.xlen.bits - 1) = s.vill := by
  rw [s.vtype_eq, Nat.testBit_two_pow_mul_add _ s.vtypeLow_lt_top, if_neg (Nat.lt_irrefl _), Nat.sub_self]
  cases s.vill <;> rfl

theorem State.vtype_lt (s : State) : s.vtype < s.xmod := by
  have htop : s.xmod = 2 * 2 ^ (s.cfg.xlen.bits - 1) := by
    rw [State.xmod, ← Nat.pow_succ', Nat.succ_eq_add_one, Nat.sub_add_cancel (by have := s.bits_ge; omega)]
  have hlow := s.vtypeLow_lt_top
  have hvill : 2 ^ (s.cfg.xlen.bits - 1) * s.vill.toNat ≤ 2 ^ (s.cfg.xlen.bits - 1) * 1 :=
    Nat.mul_le_mul_left _ s.vill.toNat_le
  rw [s.vtype_eq, htop]
  omega

/-- `vill` stands above the low byte, so `vtype` has the fields of that byte. -/
theorem State.vtype_mod (s : State) : s.vtype % 2 ^ 8 = s.vtypeLow := by
  have hdvd : 2 ^ 8 ∣ 2 ^ (s.cfg.xlen.bits - 1) := Nat.pow_dvd_pow 2 (by have := s.bits_ge; omega)
  rw [s.vtype_eq, Nat.add_mod, Nat.mod_eq_zero_of_dvd (hdvd.mul_right _), Nat.zero_add, Nat.mod_mod,
    Nat.mod_eq_of_lt s.vtypeLow_lt]

/-- A bit of a number is set where the bit alone is 1. -/
theorem testBit_of_div_mod {n k : Nat} {b : Bool} (h : n / 2 ^ k % 2 = b.toNat) : n.testBit k = b := by
  rw [Nat.testBit_eq_decide_div_mod_eq, h]
  cases b <;> rfl

/-- The fields of `vtype` (10_state R113). -/
theorem State.vtype_fields (s : State) : s.vtype % 8 = s.vlmul.toNat ∧ s.vtype / 8 % 8 = s.vsew.toNat
    ∧ s.vtype.testBit 6 = s.vta ∧ s.vtype.testBit 7 = s.vma := by
  have hmod := s.vtype_mod
  have := s.vlmul.isLt
  have := s.vsew.isLt
  have := s.vta.toNat_lt
  have := s.vma.toNat_lt
  unfold State.vtypeLow at hmod
  refine ⟨?_, ?_, testBit_of_div_mod ?_, testBit_of_div_mod ?_⟩ <;> omega

theorem State.testBit_vtype_zero (s : State) {k : Nat} (h8 : 8 ≤ k) (hk : k < s.cfg.xlen.bits - 1) :
    s.vtype.testBit k = false := by
  rw [s.testBit_vtype hk]
  exact Nat.testBit_lt_two_pow (Nat.lt_of_lt_of_le s.vtypeLow_lt (Nat.pow_le_pow_right (by omega) h8))

/-- Settles O8: each write by what it leaves in its field, and `vtype` by its low byte and its top bit. -/
theorem csrViews : Obligations.CsrViews := by
  intro s v
  obtain ⟨hlmul, hsew, hta, hma⟩ := s.vtype_fields
  have hvcsr : v % 2 + 2 * (v / 2 % 4) = v % 8 := by omega
  refine ⟨rfl, ?_, ?_, ?_, ?_, ?_, fun n hn => s.csrWrite_other v hn, rfl, rfl, s.vtype, rfl, hlmul, hsew, hta, hma,
    s.testBit_vtype_top, s.vtype_lt, fun k h8 hk => s.testBit_vtype_zero h8 hk⟩
  all_goals simp [State.csrWrite, State.csrRead, toNat_mod_two_beq_one, hvcsr]

/-! ### Reset (10_state R121) -/

/-- Settles O9: each value is a field of `State.resetOf`; VLMAX is `8 * VLENB / 8`. -/
theorem resetValues : Obligations.ResetValues := by
  intro c s
  have hvlmax : s.vlmax = c.vlenb := Nat.mul_div_cancel_left c.vlenb (by decide : 0 < 8)
  exact ⟨rfl, rfl, rfl, rfl, rfl, rfl, rfl, rfl, rfl, rfl, rfl, fun _ => rfl, rfl, hvlmax⟩

end Sys2Proof.Machine
end

section
/-! SUPPORT. The memory port outside a command: the addresses of a call and the calls answered Ok (20_memory R203, R209). -/

namespace Sys2Proof.Machine

/-- Byte `k` of a little-endian value is the byte at the `k`-th address (20_memory R203). -/
theorem Memory.readList_div_mod (m : Memory) (as : List Nat) (k : Nat) (hk : k < as.length) :
    Memory.readList m as / 256 ^ k % 256 = (Memory.read m as[k]).toNat := by
  induction as generalizing k with
  | nil => simp at hk
  | cons a as ih =>
    have hbyte := (Memory.read m a).isLt
    rw [Memory.readList]
    cases k with
    | zero => rw [List.getElem_cons_zero]; omega
    | succ k =>
      have htail : ((Memory.read m a).toNat + 256 * Memory.readList m as) / 256 = Memory.readList m as := by omega
      rw [List.getElem_cons_succ, Nat.pow_succ', ← Nat.div_div_eq_div_mul, htail, ih k (by simpa using hk)]

/-! ### The addresses of a call -/

theorem State.addr_natCast (s : State) (n : Nat) : s.addr (n : Int) = n % s.xmod := rfl

@[simp] theorem State.length_byteAddrs (s : State) (addr n : Nat) : (s.byteAddrs addr n).length = n := by
  simp [State.byteAddrs]

@[simp] theorem State.getElem_byteAddrs (s : State) (addr n k : Nat) (hk : k < (s.byteAddrs addr n).length) :
    (s.byteAddrs addr n)[k] = (addr + k) % s.xmod := by
  simp only [State.byteAddrs, List.getElem_map, List.getElem_range]
  exact s.addr_natCast (addr + k)

theorem State.mem_byteAddrs {s : State} {addr n a : Nat} :
    a ∈ s.byteAddrs addr n ↔ ∃ k < n, a = (addr + k) % s.xmod := by
  simp only [List.mem_iff_getElem, State.getElem_byteAddrs, State.length_byteAddrs, exists_prop, eq_comm]

/-- A call of at most `2^XLEN` bytes does not meet the same address twice, though its addresses wrap. -/
theorem State.nodup_byteAddrs (s : State) (addr : Nat) {n : Nat} (hn : n ≤ s.xmod) : (s.byteAddrs addr n).Nodup := by
  refine List.nodup_range.map_on fun j hj k hk h => ?_
  rw [List.mem_range] at hj hk
  exact (Nat.ModEq.add_left_cancel' addr h).eq_of_lt_of_lt (by omega) (by omega)

/-! ### Calls answered Ok -/

/-- Where no agent acts, taking the answer leaves memory as it is. -/
theorem State.takeAnswer_of_quiet {s : State} (ha : s.nextAnswer.agents = []) :
    s.takeAnswer = { s with answers := s.answers.tail } := by
  rw [State.takeAnswer, ha]
  rfl

theorem memRead_of_quiet {s : State} (addr n : Nat) (ha : s.nextAnswer.agents = []) (hf : s.nextAnswer.fault = none) :
    memRead addr n s = .ok (Memory.readList s.mem (s.byteAddrs addr n), { s with
      answers := s.answers.tail
      trace := s.trace ++ [⟨.read, addr, n, Memory.readList s.mem (s.byteAddrs addr n), none⟩] }) := by
  rw [memRead, memGet, hf, State.takeAnswer_of_quiet ha]
  rfl

theorem memWrite_of_quiet {s : State} (addr n v : Nat) (ha : s.nextAnswer.agents = []) (hf : s.nextAnswer.fault = none) :
    memWrite addr n v s = .ok { s with
      mem := Memory.writeList s.mem (s.byteAddrs addr n) v
      answers := s.answers.tail
      trace := s.trace ++ [⟨.write, addr, n, v, none⟩] } := by
  rw [memWrite, hf, State.takeAnswer_of_quiet ha]
  rfl

end Sys2Proof.Machine
end

section
/-! SUPPORT. Commands that make no call: what the memory port keeps (20_memory R201). -/

namespace Sys2Proof.Reference

open Sys2Proof.Machine

/-- Memory, the record of calls and the answers still to come are as they were. -/
structure SamePort (s0 s : State) : Prop where
  mem : s.mem = s0.mem
  trace : s.trace = s0.trace
  answers : s.answers = s0.answers

/-- Only a call takes an answer or is recorded, and only a store writes memory. -/
theorem Within.samePort {e : Effects} {s0 s : State} (hcall : e.call = false) (hstore : e.store = false)
    (h : Within e s0 s) : SamePort s0 s := by
  induction h with
  | start => exact ⟨rfl, rfl, rfl⟩
  | takeAnswer _ hc => simp [hcall] at hc
  | record _ _ hc => simp [hcall] at hc
  | write _ _ _ _ hst => simp [hstore] at hst
  | @settle s vd _ _ ih =>
    obtain ⟨vrf, draws, hs⟩ := settleMask_fixed s vd
    rw [hs]
    exact ⟨ih.mem, ih.trace, ih.answers⟩
  | pin _ _ _ _ ih => exact ⟨ih.mem, ih.trace, ih.answers⟩
  | noteRead _ _ _ ih => exact ⟨ih.mem, ih.trace, ih.answers⟩
  | putBytes _ _ _ _ _ ih => exact ⟨ih.mem, ih.trace, ih.answers⟩
  | orSat _ _ _ ih => exact ⟨ih.mem, ih.trace, ih.answers⟩
  | putMaskBit _ _ _ _ _ _ ih => exact ⟨ih.mem, ih.trace, ih.answers⟩
  | pend _ _ _ _ ih => exact ⟨ih.mem, ih.trace, ih.answers⟩

/-- The instructions that call the memory port are those of the access tables. -/
theorem effects_call (s : State) (i : Instr) : (effects s.cfg i).call = Claims.reachesMemory s i := by
  cases i <;> rfl

/-- Every store calls the memory port. -/
theorem effects_store_of_call_eq_false {c : Config} {i : Instr} (h : (effects c i).call = false) :
    (effects c i).store = false := by
  have hstores : ((effects c i).store && !(effects c i).call) = false := by cases i <;> rfl
  simpa [h] using hstores

end Sys2Proof.Reference
end

section
/-! The memory port (20_memory R201, R203, R209). -/

namespace Sys2Proof.Machine

open Sys2Proof.Reference

/-- Settles O17: an instruction outside the access tables makes no call, and no state it passes through has another port. -/
theorem onlyMemoryInstructionsReachMemory : Obligations.OnlyMemoryInstructionsReachMemory := by
  intro i s t hw hs hreach ht
  have hcall : (effects s.cfg i).call = false := (effects_call s i).trans hreach
  obtain ⟨u, vl, vstart, result, pc, xepc, xcause, xtval, hu, rfl⟩ := (exec_ends hw (State.inv_cfg hs) ht).from_within
  have hport := hu.samePort hcall (effects_store_of_call_eq_false hcall)
  exact ⟨hport.mem, hport.trace, hport.answers⟩

/-- Settles O28: a call reads or writes its list of wrapping addresses, which are distinct as eight bytes do not go around the
address space. -/
theorem memoryPrimitives : Obligations.MemoryPrimitives := by
  intro s addr n v hm hn ha hf
  have hlen : (s.byteAddrs addr n).length = n := s.length_byteAddrs addr n
  constructor
  · refine ⟨_, memRead_of_quiet addr n ha hf, ?_, fun k hk => ?_⟩
    · simpa only [hlen] using Memory.readList_lt s.mem (s.byteAddrs addr n)
    · rw [Memory.readList_div_mod _ _ k (hlen.symm ▸ hk), State.getElem_byteAddrs]
  · have hdistinct : (s.byteAddrs addr n).Nodup :=
      s.nodup_byteAddrs addr (by have := s.two_pow_le_xmod; omega)
    refine ⟨_, memWrite_of_quiet addr n v ha hf, fun k hk => ?_, fun a hout => ?_⟩
    · have hbyte := Memory.read_writeList_getElem hm _ v k hdistinct (hlen.symm ▸ hk)
      rw [State.getElem_byteAddrs] at hbyte
      rw [hbyte, BitVec.toNat_ofNat]
    · refine Memory.read_writeList_of_notMem hm _ v a fun hmem => ?_
      obtain ⟨k, hk, rfl⟩ := State.mem_byteAddrs.mp hmem
      exact hout k hk rfl

end Sys2Proof.Machine
end

section
/-! A word and its fields, and the round trip from instructions (30_encoding R304 to R312). -/

namespace Sys2Proof

/-- Every field fits its place in a word, the opcode and the three selector fields too (30_encoding R304, R306). -/
structure Fields.InRange (f : Fields) : Prop extends Fields.Fit f where
  mew : f.mew < 2
  mop : f.mop < 4
  f3 : f.f3 < 8
  op : f.op < 128

theorem Fields.ofWord_inRange (w : InstrWord) : (Fields.ofWord w).InRange where
  toFit := Fields.ofWord_fit w
  mew := Nat.mod_lt _ (by decide)
  mop := Nat.mod_lt _ (by decide)
  f3 := Nat.mod_lt _ (by decide)
  op := Nat.mod_lt _ (by decide)

theorem Fields.toNat_ofWord (w : InstrWord) : (Fields.ofWord w).toNat = w.toNat := by
  have hw := w.isLt
  simp only [Fields.toNat, Fields.ofWord, beq_iff_eq]
  split <;> omega

theorem Fields.toWord_ofWord (w : InstrWord) : (Fields.ofWord w).toWord = w := by
  rw [Fields.toWord, Fields.toNat_ofWord, BitVec.ofNat_toNat, BitVec.setWidth_eq]

theorem Fields.InRange.toNat_toWord {f : Fields} (h : f.InRange) : f.toWord.toNat = f.toNat := by
  obtain ⟨⟨hnf, hf2, hf1, hfd⟩, hmew, hmop, hf3, hop⟩ := h
  simp only [fits3, fits5, decide_eq_true_eq] at hnf hf2 hf1 hfd
  rw [Fields.toWord, BitVec.toNat_ofNat, Fields.toNat]
  split <;> omega

/-- Fields in range do not overlap, so each is read back from its place. -/
theorem Fields.InRange.ofWord_toWord {f : Fields} (h : f.InRange) : Fields.ofWord f.toWord = f := by
  rw [Fields.ofWord, h.toNat_toWord]
  obtain ⟨⟨hnf, hf2, hf1, hfd⟩, hmew, hmop, hf3, hop⟩ := h
  obtain ⟨nf, mew, mop, vm, f2, f1, f3, fd, op⟩ := f
  simp only [fits3, fits5, decide_eq_true_eq] at hnf hf2 hf1 hfd hmew hmop hf3 hop
  cases vm <;> simp [Fields.toNat] <;> omega

/-! ### Instructions and their fields -/

section
open Laws.FieldsDecode

/-- The field decoder reads every well-formed instruction back, one law per constructor in the table's order. -/
theorem decodeFields_fields {i : Instr} (h : i.wf = true) : decodeFields i.fields = .instr i :=
  Instr.rec (motive := Statement)
    vadd_vv vadd_vx vadd_vi vsub_vv vsub_vx vrsub_vx vrsub_vi vminu_vv vminu_vx vmin_vv vmin_vx vmaxu_vv vmaxu_vx
    vmax_vv vmax_vx vand_vv vand_vx vand_vi vor_vv vor_vx vor_vi vxor_vv vxor_vx vxor_vi vrgather_vv vrgather_vx
    vrgather_vi vslideup_vx vslideup_vi vslidedown_vx vslidedown_vi vadc_vvm vadc_vxm vadc_vim vmadc_vvm vmadc_vxm
    vmadc_vim vmadc_vv vmadc_vx vmadc_vi vsbc_vvm vsbc_vxm vmsbc_vvm vmsbc_vxm vmsbc_vv vmsbc_vx vmseq_vv vmseq_vx
    vmseq_vi vmsne_vv vmsne_vx vmsne_vi vmsltu_vv vmsltu_vx vmslt_vv vmslt_vx vmsleu_vv vmsleu_vx vmsleu_vi vmsle_vv
    vmsle_vx vmsle_vi vmsgtu_vx vmsgtu_vi vmsgt_vx vmsgt_vi vsaddu_vv vsaddu_vx vsaddu_vi vsadd_vv vsadd_vx vsadd_vi
    vssubu_vv vssubu_vx vssub_vv vssub_vx vsll_vv vsll_vx vsll_vi vsmul_vv vsmul_vx vsrl_vv vsrl_vx vsrl_vi vsra_vv
    vsra_vx vsra_vi vssrl_vv vssrl_vx vssrl_vi vssra_vv vssra_vx vssra_vi vnsrl_wv vnsrl_wx vnsrl_wi vnsra_wv
    vnsra_wx vnsra_wi vnclipu_wv vnclipu_wx vnclipu_wi vnclip_wv vnclip_wx vnclip_wi vwredsumu_vs vwredsum_vs
    vredsum_vs vredand_vs vredor_vs vredxor_vs vredminu_vs vredmin_vs vredmaxu_vs vredmax_vs vaaddu_vv vaaddu_vx
    vaadd_vv vaadd_vx vasubu_vv vasubu_vx vasub_vv vasub_vx vslide1up_vx vslide1down_vx vzext_vf8 vsext_vf8
    vzext_vf4 vsext_vf4 vzext_vf2 vsext_vf2 vdivu_vv vdivu_vx vdiv_vv vdiv_vx vremu_vv vremu_vx vrem_vv vrem_vx
    vmulhu_vv vmulhu_vx vmul_vv vmul_vx vmulhsu_vv vmulhsu_vx vmulh_vv vmulh_vx vmadd_vv vmadd_vx vnmsub_vv
    vnmsub_vx vmacc_vv vmacc_vx vnmsac_vv vnmsac_vx vwaddu_vv vwaddu_vx vwadd_vv vwadd_vx vwsubu_vv vwsubu_vx
    vwsub_vv vwsub_vx vwaddu_wv vwaddu_wx vwadd_wv vwadd_wx vwsubu_wv vwsubu_wx vwsub_wv vwsub_wx vwmulu_vv
    vwmulu_vx vwmulsu_vv vwmulsu_vx vwmul_vv vwmul_vx vwmaccu_vv vwmaccu_vx vwmacc_vv vwmacc_vx vwmaccus_vx
    vwmaccsu_vv vwmaccsu_vx vle8_v vle8ff_v vlse8_v vluxei8_v vloxei8_v vse8_v vsse8_v vsuxei8_v vsoxei8_v vle16_v
    vle16ff_v vlse16_v vluxei16_v vloxei16_v vse16_v vsse16_v vsuxei16_v vsoxei16_v vle32_v vle32ff_v vlse32_v
    vluxei32_v vloxei32_v vse32_v vsse32_v vsuxei32_v vsoxei32_v vle64_v vle64ff_v vlse64_v vluxei64_v vloxei64_v
    vse64_v vsse64_v vsuxei64_v vsoxei64_v vl1re8_v vl1re16_v vl1re32_v vl1re64_v vs1r_v vl2re8_v vl2re16_v
    vl2re32_v vl2re64_v vs2r_v vl4re8_v vl4re16_v vl4re32_v vl4re64_v vs4r_v vl8re8_v vl8re16_v vl8re32_v vl8re64_v
    vs8r_v vlm_v vsm_v i h

end

/-- The numbers `opvFields` is given fit, so the fields it makes do. -/
theorem opvFields_inRange {funct6 f3 f2 f1 fd : Nat} {vm : Bool} (h : (fits5 fd && fits5 f2 && fits5 f1) = true)
    (h6 : funct6 < 64) (h3 : f3 < 8) : (opvFields funct6 f3 vm f2 f1 fd).InRange := by
  simp only [Bool.and_eq_true] at h
  obtain ⟨⟨hd, h2⟩, h1⟩ := h
  have hnf : funct6 / 8 < 8 := by omega
  have hop : 0x57 < 128 := by decide
  exact ⟨⟨decide_eq_true hnf, h2, h1, hd⟩, Nat.mod_lt _ (by decide), Nat.mod_lt _ (by decide), h3, hop⟩

theorem memFields_inRange {op nf mop f2 f1 f3 fd : Nat} {vm : Bool}
    (h : (fits3 nf && fits5 fd && fits5 f1 && fits5 f2) = true) (hop : op < 128) (hmop : mop < 4) (h3 : f3 < 8) :
    (memFields op nf mop vm f2 f1 f3 fd).InRange := by
  simp only [Bool.and_eq_true] at h
  obtain ⟨⟨⟨hnf, hd⟩, h1⟩, h2⟩ := h
  exact ⟨⟨hnf, h2, h1, hd⟩, (by decide : 0 < 2), hmop, h3, hop⟩

/-- A format's fixed fields fit, so the fields of an instruction fit where the instruction is well-formed. -/
theorem Instr.fields_inRange {i : Instr} (h : i.wf = true) : i.fields.InRange := by
  cases i
  case vzext_vf8 | vsext_vf8 | vzext_vf4 | vsext_vf4 | vzext_vf2 | vsext_vf2 =>
    exact opvFields_inRange ((Bool.and_true _).trans h) (by decide) (by decide)
  case vle8_v | vle8ff_v | vle16_v | vle16ff_v | vle32_v | vle32ff_v | vle64_v | vle64ff_v | vse8_v | vse16_v | vse32_v
      | vse64_v =>
    exact memFields_inRange ((Bool.and_true _).trans h) (by decide) (by decide) (by decide)
  case vl1re8_v | vl1re16_v | vl1re32_v | vl1re64_v | vl2re8_v | vl2re16_v | vl2re32_v | vl2re64_v | vl4re8_v | vl4re16_v
      | vl4re32_v | vl4re64_v | vl8re8_v | vl8re16_v | vl8re32_v | vl8re64_v | vlm_v | vs1r_v | vs2r_v | vs4r_v | vs8r_v
      | vsm_v =>
    exact memFields_inRange ((Bool.and_true _).trans h) (by decide) (by decide) (by decide)
  case vlse8_v | vlse16_v | vlse32_v | vlse64_v | vsse8_v | vsse16_v | vsse32_v | vsse64_v | vluxei8_v | vluxei16_v
      | vluxei32_v | vluxei64_v | vloxei8_v | vloxei16_v | vloxei32_v | vloxei64_v | vsuxei8_v | vsuxei16_v | vsuxei32_v
      | vsuxei64_v | vsoxei8_v | vsoxei16_v | vsoxei32_v | vsoxei64_v =>
    exact memFields_inRange h (by decide) (by decide) (by decide)
  all_goals exact opvFields_inRange h (by decide) (by decide)

/-- Settles O1: a well-formed instruction's fields come back from its word, and the field decoder reads the instruction off
them. -/
theorem decodeEncode : Obligations.DecodeEncode := by
  intro i h
  rw [encode, decode, (Instr.fields_inRange h).ofWord_toWord, decodeFields_fields h]

end Sys2Proof
end

section
/-! The round trip from words (30_encoding R312, R320): every arm of the decoder gives an instruction with the fields it read. -/

namespace Sys2Proof

section
variable {f : Fields} {i : Instr}

/-- Cutting `funct6` up gives the fields it was put together from. -/
theorem Fields.InRange.opvFields_eq (h : f.InRange) (hop : f.op = 0x57) :
    opvFields f.funct6 f.f3 f.vm f.f2 f.f1 f.fd = f := by
  have hmew := h.mew
  have hmop := h.mop
  have hnf : f.funct6 / 8 = f.nf := by unfold Fields.funct6; omega
  have hmew' : f.funct6 / 4 % 2 = f.mew := by unfold Fields.funct6; omega
  have hmop' : f.funct6 % 4 = f.mop := by unfold Fields.funct6; omega
  rw [opvFields, hnf, hmew', hmop', ← hop]

/-- Each arm of the opcode map fixes `funct6`, and some fix `vm` or `vs1`, to what its instruction's word has there; the other
fields go into the instruction (30_encoding R340 to R342). -/
theorem decodeOpV_fields (hi : decodeOpV f = .instr i) : i.fields = opvFields f.funct6 f.f3 f.vm f.f2 f.f1 f.fd := by
  unfold decodeOpV decodeOpivv decodeOpmvv decodeOpivi decodeOpivx decodeOpmvx decodeVxunary0 at hi
  repeat' split at hi
  all_goals cases hi
  all_goals simp_all only [Bool.not_eq_true]; rfl

theorem Fields.InRange.mop_cases (h : f.InRange) : f.mop = 0 ∨ f.mop = 1 ∨ f.mop = 2 ∨ f.mop = 3 := by
  have := h.mop
  omega

/-- Each arm fixes `width` and `mop`, and some `lumop`, `nf` or `vm`, to what its instruction's word has there (30_encoding
R343). The ordered accesses are the arm for any other `mop`, which is 3 in a word. -/
theorem decodeLoad_fields (h : f.InRange) (hop : f.op = 0x07) (hi : decodeLoad f = .instr i) : i.fields = f := by
  have hmop := h.mop_cases
  obtain ⟨nf, mew, mop, vm, f2, f1, f3, fd, op⟩ := f
  unfold decodeLoad decodeLoadUnit decodeLoadFirstFault decodeLoadStrided decodeLoadUnordered decodeLoadOrdered
    decodeLoadWhole decodeMaskMemory at hi
  repeat' split at hi
  all_goals cases hi
  all_goals simp_all only [imp_false, false_or]; rfl

theorem decodeStore_fields (h : f.InRange) (hop : f.op = 0x27) (hi : decodeStore f = .instr i) : i.fields = f := by
  have hmop := h.mop_cases
  obtain ⟨nf, mew, mop, vm, f2, f1, f3, fd, op⟩ := f
  unfold decodeStore decodeStoreUnit decodeStoreStrided decodeStoreUnordered decodeStoreOrdered decodeStoreWhole
    decodeMaskMemory at hi
  repeat' split at hi
  all_goals cases hi
  all_goals simp_all only [imp_false, false_or]; rfl

/-- The field decoder ignores no field: an instruction it reads has exactly the fields it was handed. -/
theorem fields_of_decodeFields (h : f.InRange) (hi : decodeFields f = .instr i) : i.fields = f := by
  unfold decodeFields at hi
  split at hi
  next hop => exact (decodeOpV_fields hi).trans (h.opvFields_eq hop)
  next hop => exact decodeLoad_fields h hop hi
  next hop => exact decodeStore_fields h hop hi
  next => cases hi

end

/-- Settles O2: the instruction has the fields of the word, and the word is the one with these fields. -/
theorem encodeDecode : Obligations.EncodeDecode := by
  intro w i hi
  have hfields : i.fields = Fields.ofWord w := fields_of_decodeFields (Fields.ofWord_inRange w) hi
  exact ⟨decode_wf hi, by rw [encode, hfields, Fields.toWord_ofWord]⟩

end Sys2Proof
end

section
/-! Reserved encodings (30_encoding R350 to R353, 92 D43), and the words written out bit by bit. -/

namespace Sys2Proof

open Sys2Proof.Claims

section
variable {f : Fields}

/-! ### Format OP-V -/

/-- A reserved `funct6` has no arm of its own in its category's column (30_encoding R340, R341), so the last arm takes it. -/
theorem decodeOpV_of_reservedFunct6 (h : f.funct6 ∈ reservedFunct6 f.f3) : decodeOpV f = .reserved .funct6 := by
  unfold reservedFunct6 at h
  split at h
  case h_6 => cases h
  all_goals
    next h3 =>
      simp only [decodeOpV, h3, decodeOpivv, decodeOpmvv, decodeOpivi, decodeOpivx, decodeOpmvx]
      split
      any_goals rfl
      all_goals next h6 => rw [h6] at h; exact absurd h (by decide)

/-- An unmasked `vadc` is reserved (30_encoding R351). -/
theorem decodeOpV_of_vadc_unmasked (hvm : f.vm = true) (h6 : f.funct6 = 16) (h3 : f.f3 ∈ [0, 3, 4]) :
    decodeOpV f = .reserved .vmBit := by
  simp only [List.mem_cons, List.not_mem_nil, or_false] at h3
  rcases h3 with h3 | h3 | h3 <;>
    simp only [decodeOpV, decodeOpivv, decodeOpivi, decodeOpivx, h3, h6, hvm, if_true]

/-- An unmasked `vsbc` is reserved (30_encoding R351). -/
theorem decodeOpV_of_vsbc_unmasked (hvm : f.vm = true) (h6 : f.funct6 = 18) (h3 : f.f3 ∈ [0, 4]) :
    decodeOpV f = .reserved .vmBit := by
  simp only [List.mem_cons, List.not_mem_nil, or_false] at h3
  rcases h3 with h3 | h3 <;> simp only [decodeOpV, decodeOpivv, decodeOpivx, h3, h6, hvm, if_true]

/-! ### Formats VL and VS -/

/-- An arm that gives an instruction has `vm` set and an `nf` of 0, 1, 3 or 7 (30_encoding R351, R352). -/
theorem decodeLoadWhole_reserved (h : f.vm = false ∨ f.nf ∈ [2, 4, 5, 6]) : ∃ r, decodeLoadWhole f = .reserved r := by
  unfold decodeLoadWhole
  repeat' split
  any_goals exact ⟨_, rfl⟩
  all_goals simp_all

theorem decodeStoreWhole_reserved (h : f.vm = false ∨ f.nf ∈ [2, 4, 5, 6] ∨ f.f3 ≠ 0) :
    ∃ r, decodeStoreWhole f = .reserved r := by
  unfold decodeStoreWhole
  repeat' split
  any_goals exact ⟨_, rfl⟩
  all_goals simp_all

theorem decodeMaskMemory_reserved {i : Instr} (h : f.vm = false ∨ f.nf ≠ 0 ∨ f.f3 ≠ 0) :
    ∃ r, decodeMaskMemory i f = .reserved r := by
  unfold decodeMaskMemory
  repeat' split
  any_goals exact ⟨_, rfl⟩
  all_goals simp_all

theorem vectorWidth_of_mem (h : f.f3 ∈ [0, 5, 6, 7]) : vectorWidth f.f3 = true := by
  simpa [vectorWidth, or_assoc] using h

/-- `mew = 1` is reserved (30_encoding R353), in both formats. -/
theorem decodeLoad_of_mew (h3 : f.f3 ∈ [0, 5, 6, 7]) (h : f.mew = 1) : decodeLoad f = .reserved .mewBit := by
  simp [decodeLoad, vectorWidth_of_mem h3, h]

theorem decodeStore_of_mew (h3 : f.f3 ∈ [0, 5, 6, 7]) (h : f.mew = 1) : decodeStore f = .reserved .mewBit := by
  simp [decodeStore, vectorWidth_of_mem h3, h]

/-- The reserved unit-stride loads: a reserved `lumop`, a whole-register load, a mask load (30_encoding R351 to R353). -/
theorem decodeLoad_unitStride_reserved (h3 : f.f3 ∈ [0, 5, 6, 7]) (hmop : f.mop = 0) (h0 : f.f2 ≠ 0) (h16 : f.f2 ≠ 16)
    (h8 : f.f2 = 8 → f.vm = false ∨ f.nf ∈ [2, 4, 5, 6]) (h11 : f.f2 = 11 → f.vm = false ∨ f.nf ≠ 0 ∨ f.f3 ≠ 0) :
    ∃ r, decodeLoad f = .reserved r := by
  simp only [decodeLoad, vectorWidth_of_mem h3, hmop, if_true]
  split
  next =>
    split
    next h2 => exact absurd h2 h0
    next h2 => exact decodeLoadWhole_reserved (h8 h2)
    next h2 => exact decodeMaskMemory_reserved (h11 h2)
    next h2 => exact absurd h2 h16
    next => exact ⟨_, rfl⟩
  next => exact ⟨_, rfl⟩

/-- The reserved unit-stride stores: a reserved `sumop`, a whole-register store, a mask store (30_encoding R351 to R353). -/
theorem decodeStore_unitStride_reserved (h3 : f.f3 ∈ [0, 5, 6, 7]) (hmop : f.mop = 0) (h0 : f.f2 ≠ 0)
    (h8 : f.f2 = 8 → f.vm = false ∨ f.nf ∈ [2, 4, 5, 6] ∨ f.f3 ≠ 0)
    (h11 : f.f2 = 11 → f.vm = false ∨ f.nf ≠ 0 ∨ f.f3 ≠ 0) : ∃ r, decodeStore f = .reserved r := by
  simp only [decodeStore, vectorWidth_of_mem h3, hmop, if_true]
  split
  next =>
    split
    next h2 => exact absurd h2 h0
    next h2 => exact decodeStoreWhole_reserved (h8 h2)
    next h2 => exact decodeMaskMemory_reserved (h11 h2)
    next => exact ⟨_, rfl⟩
  next => exact ⟨_, rfl⟩

/-! ### Any format -/

theorem decodeFields_of_op_0x57 (h : f.op = 0x57) : decodeFields f = decodeOpV f := by simp only [decodeFields, h]
theorem decodeFields_of_op_0x07 (h : f.op = 0x07) : decodeFields f = decodeLoad f := by simp only [decodeFields, h]
theorem decodeFields_of_op_0x27 (h : f.op = 0x27) : decodeFields f = decodeStore f := by simp only [decodeFields, h]

theorem decodeFields_reserved (h : reservedWord f) : ∃ r, decodeFields f = .reserved r := by
  rcases h with ⟨hop, h6⟩ | ⟨hop, hvm, h6, h3⟩ | ⟨hop, hvm, h6, h3⟩ | ⟨hop, h3, h⟩
  · exact ⟨_, (decodeFields_of_op_0x57 hop).trans (decodeOpV_of_reservedFunct6 h6)⟩
  · exact ⟨_, (decodeFields_of_op_0x57 hop).trans (decodeOpV_of_vadc_unmasked hvm h6 h3)⟩
  · exact ⟨_, (decodeFields_of_op_0x57 hop).trans (decodeOpV_of_vsbc_unmasked hvm h6 h3)⟩
  · obtain hop | hop : f.op = 0x07 ∨ f.op = 0x27 := by simpa using hop
    · rw [decodeFields_of_op_0x07 hop]
      rcases h with hmew | ⟨hmop, h⟩
      · exact ⟨_, decodeLoad_of_mew h3 hmew⟩
      · refine decodeLoad_unitStride_reserved h3 hmop (fun h2 => ?_) (fun h2 => ?_) (fun h2 => ?_) (fun h2 => ?_)
        · simp [hop, h2] at h
        · simp [hop, h2] at h
        · simpa [hop, h2] using h
        · simpa [hop, h2] using h
    · rw [decodeFields_of_op_0x27 hop]
      rcases h with hmew | ⟨hmop, h⟩
      · exact ⟨_, decodeStore_of_mew h3 hmew⟩
      · refine decodeStore_unitStride_reserved h3 hmop (fun h2 => ?_) (fun h2 => ?_) (fun h2 => ?_)
        · simp [hop, h2] at h
        · simpa [hop, h2] using h
        · simpa [hop, h2] using h

end

/-- Settles O4: every reserved encoding decodes to a reservation, for which the dispatcher takes the trap itself. -/
theorem reservedEncodings : Obligations.ReservedEncodings := by
  intro s w h
  obtain ⟨r, hr⟩ : ∃ r, decode w = .reserved r := decodeFields_reserved h
  simp only [Machine.State.issue, hr]

/-- Settles O3, by running the decoder on each word. -/
theorem wordsDecode : Obligations.WordsDecode := by
  unfold Obligations.WordsDecode
  decide

end Sys2Proof
end

section
/-! The two results of a command (30_encoding R302, 60_exceptions R1209, R1210, R1220). -/

namespace Sys2Proof.Reference

open Sys2Proof.Machine

/-- The pc 4 further is the same from every state inside a command. -/
theorem Fixed.addr_pc_add_four {s0 s : State} (h : Fixed s0 s) : s.addr (s.pc + 4) = s0.addr (s0.pc + 4) := by
  simp only [State.addr, h.xmod, h.pc]

end Sys2Proof.Reference

namespace Sys2Proof.Machine

open Sys2Proof.Reference

/-- Settles O13: two of the ends of a command are `Done`, two are a delivered trap, and before its end a command moves only its
cursor among the state they speak of, and only forward. -/
theorem commandResults : Obligations.CommandResults := by
  intro i s t hw hs ht
  cases exec_ends hw (State.inv_cfg hs) ht with
  | illegal => exact .inr ⟨.illegalInstruction, rfl, rfl, rfl, rfl, rfl, rfl, Nat.le_refl _, fun _ => rfl⟩
  | completed hu =>
    have hf := hu.fixed
    exact .inl ⟨rfl, rfl, hf.addr_pc_add_four, hf.xepc, hf.xcause, hf.xtval⟩
  | truncated _ _ hu =>
    have hf := hu.fixed
    exact .inl ⟨rfl, rfl, hf.addr_pc_add_four, hf.xepc, hf.xcause, hf.xtval⟩
  | faulted info _ hu =>
    have hf := hu.fixed
    exact .inr ⟨.memFault _ info, rfl, hf.xtvec, hf.pc, rfl, rfl, hf.vl, hu.raised.vstart_ge, nofun⟩

end Sys2Proof.Machine
end

section
/-! SUPPORT. Bytes of a value, bits of a byte and multiples of a power of two, for the element engine (40_element_engine R401 to
R405). -/

namespace Sys2Proof.Machine

/-- Byte `k` of a bit string is byte `k` of its value (10_state R103). -/
theorem extractByte_eq {w : Nat} (v : BitVec w) (k : Nat) : v.extractLsb' (8 * k) 8 = BitVec.ofNat 8 (v.toNat / 256 ^ k) := by
  apply BitVec.eq_of_toNat_eq
  rw [BitVec.extractLsb'_toNat, BitVec.toNat_ofNat, Nat.shiftRight_eq_div_pow, Nat.pow_mul]

theorem length_byteOffsets (off n : Nat) : (byteOffsets off n).length = n := List.length_range'

theorem getElem_byteOffsets (off n k : Nat) (hk : k < (byteOffsets off n).length) : (byteOffsets off n)[k] = off + k := by
  simp [byteOffsets]

theorem mem_byteOffsets {off n a : Nat} : a ∈ byteOffsets off n ↔ off ≤ a ∧ a < off + n := List.mem_range'_1

/-- Byte `k` of the element read at `off` is the byte at `off + k` (40_element_engine R402). -/
theorem State.extractByte_elemAt (s : State) {w off k : Nat} (hw : 8 ∣ w) (hk : k < w / 8) :
    (s.elemAt w off).extractLsb' (8 * k) 8 = Memory.read s.vrf (off + k) := by
  have hlen := length_byteOffsets off (w / 8)
  have hlt : Memory.readList s.vrf (byteOffsets off (w / 8)) < 2 ^ w := by
    have h := Memory.readList_lt s.vrf (byteOffsets off (w / 8))
    rw [hlen] at h
    calc _ < 256 ^ (w / 8) := h
      _ = 2 ^ (8 * (w / 8)) := (Nat.pow_mul 2 8 _).symm
      _ = 2 ^ w := by rw [Nat.mul_div_cancel' hw]
  have hval : (s.elemAt w off).toNat = Memory.readList s.vrf (byteOffsets off (w / 8)) := by
    rw [State.elemAt, BitVec.toNat_ofNat, Nat.mod_eq_of_lt hlt]
  apply BitVec.eq_of_toNat_eq
  rw [extractByte_eq, hval, BitVec.toNat_ofNat, Memory.readList_div_mod _ _ k (hlen.symm ▸ hk), getElem_byteOffsets]

/-- An element written at `off` leaves byte `k` of its value at `off + k`, marked (40_element_engine R402). -/
theorem State.read_putBytes {s : State} {w off k : Nat} (v : BitVec w) (hv : Memory.wf s.vrf = true)
    (hm : Memory.wf s.vrfWritten = true) (hk : k < w / 8) :
    Memory.read (s.putBytes (byteOffsets off (w / 8)) v.toNat).vrf (off + k) = v.extractLsb' (8 * k) 8
      ∧ Memory.read (s.putBytes (byteOffsets off (w / 8)) v.toNat).vrfWritten (off + k) = 0xFF := by
  constructor
  · have h := Memory.read_writeList_getElem hv (byteOffsets off (w / 8)) v.toNat k List.nodup_range'
      ((length_byteOffsets off (w / 8)).symm ▸ hk)
    rwa [getElem_byteOffsets, ← extractByte_eq] at h
  · exact (Memory.read_fill hm _ _ _).trans (if_pos (mem_byteOffsets.mpr ⟨by omega, by omega⟩))

/-- Bytes outside the list keep their value and their marks. -/
theorem State.read_putBytes_of_notMem {s : State} {offs : List Nat} (v : Nat) (hv : Memory.wf s.vrf = true)
    (hm : Memory.wf s.vrfWritten = true) {a : Nat} (ha : a ∉ offs) :
    Memory.read (s.putBytes offs v).vrf a = Memory.read s.vrf a
      ∧ Memory.read (s.putBytes offs v).vrfWritten a = Memory.read s.vrfWritten a :=
  ⟨Memory.read_writeList_of_notMem hv _ _ _ ha, (Memory.read_fill hm _ _ _).trans (if_neg ha)⟩

/-- Bit `k'` of a byte after its bit `k` is set to `b`. -/
theorem getLsbD_setBit (v : Byte) (k k' : Fin 8) (b : Bool) :
    (setBit v k b).getLsbD k' = if k' = k then b else v.getLsbD k' := by
  have hmask : ∀ k k' : Fin 8, (bitMask k).getLsbD k' = decide (k' = k) := by decide
  have hkeep : ∀ k k' : Fin 8, (~~~ bitMask k).getLsbD k' = !decide (k' = k) := by decide
  cases b with
  | false =>
    have hclear : (setBit v k false).getLsbD k' = (v.getLsbD k' && !decide (k' = k)) := by
      rw [← hkeep]; exact BitVec.getLsbD_and
    rw [hclear]
    by_cases h : k' = k <;> simp [h]
  | true =>
    have hset : (setBit v k true).getLsbD k' = (v.getLsbD k' || decide (k' = k)) := by
      rw [← hmask]; exact BitVec.getLsbD_or
    rw [hset]
    by_cases h : k' = k <;> simp [h]

/-- `mwrite` zeroes its byte under `byte_start` at the byte's first bit, and else at the byte's first touch (40_element_engine
R405). -/
theorem State.zeroesByte_iff (s : State) (ei : Nat) : s.zeroesByte ei = true ↔
    (s.cfg.maskDestPolicy = .byteStart ∧ ei % 8 = 0) ∨ (s.cfg.maskDestPolicy ≠ .byteStart ∧ ei / 8 ∉ s.touched) := by
  unfold State.zeroesByte
  cases s.cfg.maskDestPolicy <;> simp

/-- The byte of the element after `mwrite`, bit by bit. -/
theorem State.read_putMaskBit_self {s : State} (vd ei : Nat) (b : Bool) (hv : Memory.wf s.vrf = true) {k : Nat} (hk : k < 8) :
    (Memory.read (s.putMaskBit vd ei b).vrf (s.maskOffset vd ei)).getLsbD k =
      if k = ei % 8 then b
      else if s.zeroesByte ei = true then false else (Memory.read s.vrf (s.maskOffset vd ei)).getLsbD k := by
  have hbit := getLsbD_setBit (if s.zeroesByte ei then 0 else Memory.read s.vrf (s.maskOffset vd ei))
    ⟨ei % 8, Nat.mod_lt _ (by decide)⟩ ⟨k, hk⟩ b
  simp only [Fin.mk.injEq] at hbit
  simp only [State.putMaskBit]
  rw [Memory.read_write _ _ _ _ hv, if_pos rfl, hbit]
  split
  · rfl
  · split
    · exact BitVec.getLsbD_zero
    · rfl

theorem State.read_putMaskBit_of_ne {s : State} {vd ei a : Nat} (b : Bool) (hv : Memory.wf s.vrf = true)
    (ha : a ≠ s.maskOffset vd ei) : Memory.read (s.putMaskBit vd ei b).vrf a = Memory.read s.vrf a :=
  (Memory.read_write _ _ _ _ hv).trans (if_neg ha)

theorem State.mem_touched_putMaskBit (s : State) (vd ei : Nat) (b : Bool) (B : Nat) :
    B ∈ (s.putMaskBit vd ei b).touched ↔ B ∈ s.touched ∨ B = ei / 8 := by
  simp only [State.putMaskBit, List.contains_iff_mem]
  split
  next h => exact ⟨.inl, fun hB => hB.elim id (· ▸ h)⟩
  next => rw [List.mem_append, List.mem_singleton]

/-- `max(1, EMUL)` is a power of two: EMUL below 1 takes one register per field (40_element_engine R401). -/
theorem regsPerField_eq_max (emul : Int) : (regsPerField emul : ℚ) = max 1 ((2 : ℚ) ^ emul) := by
  have h2 : (1 : ℚ) ≤ 2 := by norm_num
  rw [regsPerField, Nat.cast_pow, Nat.cast_ofNat]
  rcases le_total 0 emul with h | h
  · obtain ⟨n, rfl⟩ := Int.eq_ofNat_of_zero_le h
    rw [zpow_natCast, Int.toNat_natCast, max_eq_right (one_le_pow₀ h2)]
  · rw [Int.toNat_of_nonpos h, pow_zero, max_eq_left (zpow_le_one_of_nonpos₀ h2 h)]

end Sys2Proof.Machine
end

section
/-! The element engine's accessors (40_element_engine R401 to R405, R412). -/

namespace Sys2Proof.Machine

open Sys2Proof.Reference

/-- Settles O24: the quotient `EEW / 8` is exact, and the registers per field are `max(1, EMUL)`. -/
theorem elementAddress : Obligations.ElementAddress := by
  intro s reg fi ei eew emul hdvd
  have hbytes : ((eew / 8 : Nat) : ℚ) = eew / 8 := Nat.cast_div hdvd (by norm_num)
  simp only [State.elemOffset]
  push_cast [hbytes, regsPerField_eq_max]
  rfl

/-- Settles O25: an element access reads or writes its list of bytes, which lie one above the other. -/
theorem elementBytes : Obligations.ElementBytes := by
  intro s w reg ei fi emul hdvd hv hm o hin
  constructor
  · exact ⟨s.elemAt w o, _, if_pos hin, fun k hk => s.extractByte_elemAt hdvd hk⟩
  · intro v
    refine ⟨_, _, if_pos hin, fun k hk => State.read_putBytes v hv hm hk, fun a ha => ?_⟩
    exact State.read_putBytes_of_notMem _ hv hm (fun hmem => by have := mem_byteOffsets.mp hmem; omega)

/-- Settles O26: a shift right by 3 is the quotient by 8, and the low three bits are the remainder. -/
theorem maskLayout : Obligations.MaskLayout := by
  intro s reg ei
  constructor
  · rw [State.maskAt, State.maskOffset, Nat.shiftRight_eq_div_pow, show 7 = 2 ^ 3 - 1 from rfl, Nat.and_two_pow_sub_one_eq_mod]
  · intro hin
    have hin' : s.maskOffset 0 ei < s.vrfSize := by simpa only [State.maskOffset, Nat.zero_mul, Nat.zero_add] using hin
    exact ⟨_, if_pos hin'⟩

/-- Settles O27: the byte is zeroed as the policy says, and `setBit` sets the one bit. -/
theorem maskDestinationWrite : Obligations.MaskDestinationWrite := by
  intro s vd ei b hv a hin
  refine ⟨s.putMaskBit vd ei b, if_pos hin, fun k hk => ?_, fun a' ha' => State.read_putMaskBit_of_ne b hv ha',
    s.mem_touched_putMaskBit vd ei b⟩
  simp only [← State.zeroesByte_iff]
  exact State.read_putMaskBit_self vd ei b hv hk

/-- No command ends in a model fault: its run stays inside the register file (40_element_engine R412). -/
theorem exec_ne_fault {i : Instr} {s : State} (hw : i.wf = true) (hc : s.cfg.wf = true) (f : Fault) : exec i s ≠ .fault f := by
  rcases exec_outcomes hw hc with ⟨-, ho⟩ | ⟨-, ho⟩ | ⟨-, r, hr, ho⟩ <;> rw [ho]
  · exact nofun
  · exact nofun
  · match r with
    | .ok _ | .error (.finished _) | .error (.trap _ _) => exact nofun
    | .error (.fault _) => exact hr.elim

/-- Settles O12: of what a step can be only a command could fault, and no command does. -/
theorem noModelFault : Obligations.NoModelFault := by
  refine ⟨fun i s f hw hs => exec_ne_fault hw (State.inv_cfg hs) f, fun s f hs h => ?_, fun s w off hout => ?_⟩
  · unfold step at h
    split at h
    next => cases h
    next =>
      split at h
      next => cases h
      next w _ =>
        split at h
        next o ho => rcases State.issue_error ho with ⟨u, rfl⟩ | rfl <;> cases h
        next i hi => exact exec_ne_fault (decode_wf (State.decode_of_issue hi)) (State.inv_cfg hs) f h
  · have hnot : ¬ off + w / 8 ≤ s.vrfSize := by omega
    exact ⟨if_neg hnot, fun v => if_neg hnot⟩

end Sys2Proof.Machine
end

section
/-! SUPPORT. `trunc` (00_scope R14) as a map of bit strings: it goes through sums and products, and the cut of a value is an
extension or a slice of the bit string. -/

namespace Sys2Proof

theorem trunc_natCast (w n : Nat) : trunc w (n : Int) = BitVec.ofNat w n := BitVec.ofInt_natCast w n

@[simp] theorem trunc_toNat {n : Nat} (w : Nat) (v : BitVec n) : trunc w (v.toNat : Int) = v.setWidth w := by
  rw [trunc_natCast, BitVec.ofNat_toNat]

@[simp] theorem trunc_toInt {n : Nat} (w : Nat) (v : BitVec n) : trunc w v.toInt = v.signExtend w := rfl

@[simp] theorem trunc_add (w : Nat) (x y : Int) : trunc w (x + y) = trunc w x + trunc w y := BitVec.ofInt_add x y

@[simp] theorem trunc_mul (w : Nat) (x y : Int) : trunc w (x * y) = trunc w x * trunc w y := BitVec.ofInt_mul x y

@[simp] theorem trunc_neg (w : Nat) (x : Int) : trunc w (-x) = -trunc w x := BitVec.ofInt_neg

@[simp] theorem trunc_sub (w : Nat) (x y : Int) : trunc w (x - y) = trunc w x - trunc w y := by
  rw [Int.sub_eq_add_neg, trunc_add, trunc_neg, BitVec.sub_eq_add_neg]

@[simp] theorem trunc_zero (w : Nat) : trunc w 0 = 0 := trunc_natCast w 0

@[simp] theorem trunc_one (w : Nat) : trunc w 1 = 1 := trunc_natCast w 1

@[simp] theorem trunc_two_pow (w n : Nat) : trunc w (2 ^ n) = BitVec.twoPow w n := by
  have h := trunc_natCast w (2 ^ n)
  rw [Nat.cast_pow, Nat.cast_ofNat] at h
  rw [h]
  apply BitVec.eq_of_toNat_eq
  rw [BitVec.toNat_ofNat, BitVec.toNat_twoPow]

theorem twoPow_self (w : Nat) : BitVec.twoPow w w = 0 := by
  apply BitVec.eq_of_toNat_eq
  simp

/-- A floored quotient by a power of two, cut to a string, is a logical shift, cut (43_alu R617, 44 R730). -/
theorem trunc_toNat_div {n : Nat} (w : Nat) (v : BitVec n) (k : Nat) :
    trunc w ((v.toNat : Int) / 2 ^ k) = (v >>> k).setWidth w := by
  have h : ((v.toNat : Int) / 2 ^ k) = ((v >>> k).toNat : Int) := by
    rw [BitVec.toNat_ushiftRight, Nat.shiftRight_eq_div_pow]
    push_cast
    rfl
  rw [h, trunc_toNat]

/-- The same for the signed value and an arithmetic shift (43_alu R618, 44 R731). -/
theorem trunc_toInt_div {n w : Nat} (hw : w ≤ n) (v : BitVec n) (k : Nat) :
    trunc w (v.toInt / 2 ^ k) = (v.sshiftRight k).setWidth w := by
  have h : v.toInt / 2 ^ k = (v.sshiftRight k).toInt := by
    rw [BitVec.toInt_sshiftRight, Int.shiftRight_eq_div_pow]
    push_cast
    rfl
  rw [h, trunc_toInt, BitVec.signExtend_eq_setWidth_of_le _ hw]

/-- The value of a cut integer (00_scope R14). -/
theorem toNat_trunc (w : Nat) (z : Int) : ((trunc w z).toNat : Int) = z % 2 ^ w := by
  have hpos : (0 : Int) < 2 ^ w := by positivity
  rw [trunc, BitVec.toNat_ofInt, Int.toNat_of_nonneg]
  · push_cast; rfl
  · push_cast; exact Int.emod_nonneg _ hpos.ne'

/-- The quotient of a remainder by a factor of its modulus. -/
theorem emod_mul_ediv (z : Int) {a : Int} (b : Int) (ha : 0 < a) : z % (a * b) / a = z / a % b := by
  rw [Int.emod_def, Int.emod_def, ← Int.ediv_ediv_of_nonneg ha.le, Int.mul_assoc, Int.sub_mul_ediv_left _ _ ha.ne']

/-- The high half of a double-width string is the floored quotient of its value by `2^w`, cut (46 R910). -/
theorem trunc_div_two_pow (w : Nat) (z : Int) : trunc w (z / 2 ^ w) = Claims.high (trunc (2 * w) z) := by
  have hpos : (0 : Int) < 2 ^ w := by positivity
  have hhigh : ((Claims.high (trunc (2 * w) z)).toNat : Int) = ((trunc (2 * w) z).toNat : Int) / 2 ^ w % 2 ^ w := by
    rw [Claims.high, BitVec.extractLsb'_toNat, Nat.shiftRight_eq_div_pow]
    push_cast
    rfl
  apply BitVec.eq_of_toNat_eq
  have h : ((trunc w (z / 2 ^ w)).toNat : Int) = ((Claims.high (trunc (2 * w) z)).toNat : Int) := by
    rw [hhigh, toNat_trunc, toNat_trunc, Nat.two_mul, pow_add, emod_mul_ediv z _ hpos, Int.emod_emod]
  exact_mod_cast h

end Sys2Proof
end

section
/-! SUPPORT. The machine's element functions are those of the tables (43_alu, 44, 45_fixed_point, 46). -/

namespace Sys2Proof.Machine

open Sys2Proof.Claims

/-- The low `log2 w` bits, as a remainder and as a mask, for a width that is a power of two (43_alu R616, 44 R730). -/
theorem shiftAmount_eq_amount {n w : Nat} (hw : ∃ k, w = 2 ^ k) (a : BitVec n) : shiftAmount w a = amount w a := by
  obtain ⟨k, rfl⟩ := hw
  exact (Nat.and_two_pow_sub_one_eq_mod _ k).symm

section
variable {w : Nat} (b a : BitVec w)

/-! ### Same width (43_alu) -/

theorem addElem_eq : addElem w b a = b + a := by simp [addElem]
theorem subElem_eq : subElem w b a = b - a := by simp [subElem]
theorem rsubElem_eq : rsubElem w b a = a - b := by simp [rsubElem]
theorem mulElem_eq : mulElem w b a = b * a := by simp [mulElem]

theorem minuElem_eq : minuElem w b a = if b.toNat ≤ a.toNat then b else a := rfl
theorem minElem_eq : minElem w b a = if b.toInt ≤ a.toInt then b else a := rfl
theorem maxuElem_eq : maxuElem w b a = if a.toNat ≤ b.toNat then b else a := rfl
theorem maxElem_eq : maxElem w b a = if a.toInt ≤ b.toInt then b else a := rfl
theorem andElem_eq : andElem w b a = b &&& a := rfl
theorem orElem_eq : orElem w b a = b ||| a := rfl
theorem xorElem_eq : xorElem w b a = b ^^^ a := rfl

theorem sllElem_eq (hw : ∃ k, w = 2 ^ k) : sllElem w b a = b <<< amount w a := by
  rw [sllElem, shiftAmount_eq_amount hw, trunc_mul, trunc_toNat, BitVec.setWidth_eq, trunc_two_pow,
    BitVec.shiftLeft_eq_mul_twoPow]

theorem srlElem_eq (hw : ∃ k, w = 2 ^ k) : srlElem w b a = b >>> amount w a := by
  rw [srlElem, shiftAmount_eq_amount hw, trunc_toNat_div, BitVec.setWidth_eq]

theorem sraElem_eq (hw : ∃ k, w = 2 ^ k) : sraElem w b a = b.sshiftRight (amount w a) := by
  rw [sraElem, shiftAmount_eq_amount hw, trunc_toInt_div (Nat.le_refl w), BitVec.setWidth_eq]

/-! ### Widening and narrowing (44) -/

theorem wadduElem_eq : wadduElem w b a = zext b + zext a := by simp [wadduElem, zext]
theorem waddElem_eq : waddElem w b a = sext b + sext a := by simp [waddElem, sext]
theorem wsubuElem_eq : wsubuElem w b a = zext b - zext a := by simp [wsubuElem, zext]
theorem wsubElem_eq : wsubElem w b a = sext b - sext a := by simp [wsubElem, sext]
theorem wmuluElem_eq : wmuluElem w b a = zext b * zext a := by simp [wmuluElem, zext]
theorem wmulElem_eq : wmulElem w b a = sext b * sext a := by simp [wmulElem, sext]
theorem wmulsuElem_eq : wmulsuElem w b a = sext b * zext a := by simp [wmulsuElem, sext, zext]

theorem wadduWElem_eq (b : BitVec (2 * w)) : wadduWElem w b a = b + zext a := by simp [wadduWElem, zext]
theorem waddWElem_eq (b : BitVec (2 * w)) : waddWElem w b a = b + sext a := by simp [waddWElem, sext]
theorem wsubuWElem_eq (b : BitVec (2 * w)) : wsubuWElem w b a = b - zext a := by simp [wsubuWElem, zext]
theorem wsubWElem_eq (b : BitVec (2 * w)) : wsubWElem w b a = b - sext a := by simp [wsubWElem, sext]

theorem nsrlElem_eq (hw : ∃ k, 2 * w = 2 ^ k) (b : BitVec (2 * w)) :
    nsrlElem w b a = (b >>> amount (2 * w) a).setWidth w := by
  rw [nsrlElem, shiftAmount_eq_amount hw, trunc_toNat_div]

theorem nsraElem_eq (hw : ∃ k, 2 * w = 2 ^ k) (b : BitVec (2 * w)) :
    nsraElem w b a = (b.sshiftRight (amount (2 * w) a)).setWidth w := by
  rw [nsraElem, shiftAmount_eq_amount hw, trunc_toInt_div (by omega)]

/-! ### Fixed point (45_fixed_point) -/

theorem trunc_pred_two_pow (w : Nat) : trunc w (2 ^ w - 1) = BitVec.allOnes w := by
  rw [trunc_sub, trunc_two_pow, trunc_one, twoPow_self]
  exact (BitVec.zero_sub 1).trans BitVec.neg_one_eq_allOnes

theorem clampUnsigned_eq (z : Int) : clampUnsigned w z = clampU w z := by
  simp only [clampUnsigned, clampU, trunc_pred_two_pow, trunc_zero, gt_iff_lt, Int.sub_one_lt_iff]
  rfl

/-- The signed bounds as bit strings: the difference and the negation of a power of two (45_fixed_point R804). -/
theorem clampSigned_eq (z : Int) : clampSigned w z = clampS w z := by
  have hmax : trunc w (2 ^ (w - 1) - 1) = BitVec.intMax w := by rw [trunc_sub, trunc_two_pow, trunc_one, BitVec.intMax]
  have hmin : trunc w (-2 ^ (w - 1)) = BitVec.intMin w := by
    rw [trunc_neg, trunc_two_pow]
    exact BitVec.neg_intMin
  simp only [clampSigned, clampS, hmax, hmin, gt_iff_lt, Int.sub_one_lt_iff]
  rfl

theorem sadduElem_eq : sadduElem w b a = clampU w ((b.toNat : Int) + a.toNat) := clampUnsigned_eq _
theorem ssubuElem_eq : ssubuElem w b a = clampU w ((b.toNat : Int) - a.toNat) := clampUnsigned_eq _
theorem saddElem_eq : saddElem w b a = clampS w (b.toInt + a.toInt) := clampSigned_eq _
theorem ssubElem_eq : ssubElem w b a = clampS w (b.toInt - a.toInt) := clampSigned_eq _

theorem smulElem_eq (rm : RoundMode) :
    smulElem rm w b a = clampS w (roundoff (b.toInt * a.toInt) (w - 1) rm) := clampSigned_eq _

theorem aadduElem_eq (rm : RoundMode) :
    aadduElem rm w b a = BitVec.ofInt w (roundoff ((b.toNat : Int) + a.toNat) 1 rm) := by rw [aadduElem, trunc]

theorem aaddElem_eq (rm : RoundMode) :
    aaddElem rm w b a = BitVec.ofInt w (roundoff (b.toInt + a.toInt) 1 rm) := by rw [aaddElem, trunc]

theorem asubuElem_eq (rm : RoundMode) :
    asubuElem rm w b a = BitVec.ofInt w (roundoff ((b.toNat : Int) - a.toNat) 1 rm) := by rw [asubuElem, trunc]

theorem asubElem_eq (rm : RoundMode) :
    asubElem rm w b a = BitVec.ofInt w (roundoff (b.toInt - a.toInt) 1 rm) := by rw [asubElem, trunc]

theorem ssrlElem_eq (hw : ∃ k, w = 2 ^ k) (rm : RoundMode) :
    ssrlElem rm w b a = BitVec.ofInt w (roundoff b.toNat (amount w a) rm) := by
  rw [ssrlElem, shiftAmount_eq_amount hw, trunc]

theorem ssraElem_eq (hw : ∃ k, w = 2 ^ k) (rm : RoundMode) :
    ssraElem rm w b a = BitVec.ofInt w (roundoff b.toInt (amount w a) rm) := by
  rw [ssraElem, shiftAmount_eq_amount hw, trunc]

theorem nclipuElem_eq (s : State) (b : BitVec (2 * s.sew)) (a : BitVec s.sew) :
    nclipuElem s.cfg.nclipSaturates s.vxrm s.sew b a = clip s clampU (roundoff b.toNat (amount (2 * s.sew) a) s.vxrm) := by
  have hwide : ∃ k, 2 * s.sew = 2 ^ k := ⟨s.sewLog + 1, s.two_mul_sew⟩
  simp only [nclipuElem, clip, shiftAmount_eq_amount hwide, clampUnsigned_eq]
  rfl

theorem nclipElem_eq (s : State) (b : BitVec (2 * s.sew)) (a : BitVec s.sew) :
    nclipElem s.cfg.nclipSaturates s.vxrm s.sew b a = clip s clampS (roundoff b.toInt (amount (2 * s.sew) a) s.vxrm) := by
  have hwide : ∃ k, 2 * s.sew = 2 ^ k := ⟨s.sewLog + 1, s.two_mul_sew⟩
  simp only [nclipElem, clip, shiftAmount_eq_amount hwide, clampSigned_eq]
  rfl

/-! ### Multiply-high and divide (46) -/

theorem toNat_eq_zero_iff : a.toNat = 0 ↔ a = 0 :=
  ⟨fun h => BitVec.eq_of_toNat_eq (h.trans BitVec.toNat_zero.symm), fun h => h ▸ BitVec.toNat_zero⟩

theorem toInt_eq_zero_iff : a.toInt = 0 ↔ a = 0 :=
  ⟨fun h => BitVec.eq_of_toInt_eq (h.trans BitVec.toInt_zero.symm), fun h => h ▸ BitVec.toInt_zero⟩

theorem mulhuElem_eq : mulhuElem w b a = high (zext b * zext a) := by simp [mulhuElem, trunc_div_two_pow, zext]
theorem mulhElem_eq : mulhElem w b a = high (sext b * sext a) := by simp [mulhElem, trunc_div_two_pow, sext]
theorem mulhsuElem_eq : mulhsuElem w b a = high (sext b * zext a) := by simp [mulhsuElem, trunc_div_two_pow, sext, zext]

theorem divuElem_eq : divuElem w b a = if a = 0 then BitVec.allOnes w else b / a := by
  have hquot : trunc w ((b.toNat / a.toNat : Nat) : Int) = b / a := by
    rw [← BitVec.toNat_udiv, trunc_toNat, BitVec.setWidth_eq]
  simp only [divuElem, trunc_pred_two_pow, hquot, toNat_eq_zero_iff]

theorem remuElem_eq : remuElem w b a = if a = 0 then b else b % a := by
  have hrem : trunc w ((b.toNat % a.toNat : Nat) : Int) = b % a := by
    rw [← BitVec.toNat_umod, trunc_toNat, BitVec.setWidth_eq]
  simp only [remuElem, trunc_toNat, BitVec.setWidth_eq, hrem, toNat_eq_zero_iff]

/-- The truncated quotient, cut: of the most negative number by -1 it wraps to itself (46 R913, R921). -/
theorem trunc_tdiv : trunc w (b.toInt.tdiv a.toInt) = b.sdiv a := by
  apply BitVec.eq_of_toInt_eq
  rw [BitVec.toInt_sdiv, trunc, BitVec.toInt_ofInt]

theorem divElem_eq : divElem w b a = if a = 0 then BitVec.allOnes w else b.sdiv a := by
  have hones : trunc w (-1) = BitVec.allOnes w := by
    rw [trunc_neg, trunc_one]
    exact BitVec.neg_one_eq_allOnes
  simp only [divElem, toInt_eq_zero_iff, hones, trunc_tdiv]
  split
  · rfl
  · split
    next h =>
      rw [← trunc_tdiv, h.1, h.2, Int.tdiv_neg, Int.tdiv_one, Int.neg_neg, trunc_neg, trunc_two_pow]
      exact BitVec.neg_intMin
    next => rfl

theorem remElem_eq : remElem w b a = if a = 0 then b else b.srem a := by
  have hrem : b.toInt - b.toInt.tdiv a.toInt * a.toInt = (b.srem a).toInt := by
    rw [BitVec.toInt_srem, Int.tmod_def, Int.mul_comm]
  simp only [remElem, toInt_eq_zero_iff, hrem, trunc_toInt, BitVec.signExtend_eq]
  split
  · rfl
  · split
    next h =>
      apply BitVec.eq_of_toInt_eq
      rw [BitVec.toInt_srem, h.1, h.2]
      simp
    next => rfl

end

end Sys2Proof.Machine
end

section
/-! SUPPORT. The shape checks of the classes are `CheckOperand` over the table of operands (41_shape R457, R458). -/

namespace Sys2Proof.Claims

open Sys2Proof.Machine Sys2Proof.Reference

/-- The shape of a vector `op1`, where there is one (41_shape R458). -/
def srcShapes (s : State) : Src → List Shape
  | .vec vs1 => [narrow s vs1]
  | .scalar _ | .simm _ | .uimm _ => []

theorem srcOk_eq (s : State) (src : Src) : s.srcOk src = (srcShapes s src).all Shape.ok := by
  cases src with
  | vec vs1 => exact (Bool.and_true _).symm
  | scalar _ | simm _ | uimm _ => rfl

section
variable (s : State) (vd vs2 vs1 : Nat) (src : Src)

theorem sameWidthShapes_eq :
    sameWidthShapes vd vs2 src s = (narrow s vd :: narrow s vs2 :: srcShapes s src).all Shape.ok := by
  rw [sameWidthShapes, srcOk_eq, Bool.and_assoc]; rfl

theorem wideningShapes_eq :
    wideningShapes vd vs2 src s = (wide s vd :: narrow s vs2 :: srcShapes s src).all Shape.ok := by
  rw [wideningShapes, srcOk_eq, Bool.and_assoc]; rfl

theorem wideningWideShapes_eq :
    wideningWideShapes vd vs2 src s = (wide s vd :: wide s vs2 :: srcShapes s src).all Shape.ok := by
  rw [wideningWideShapes, srcOk_eq, Bool.and_assoc]; rfl

theorem narrowingShapes_eq :
    narrowingShapes vd vs2 src s = (narrow s vd :: wide s vs2 :: srcShapes s src).all Shape.ok := by
  rw [narrowingShapes, srcOk_eq, Bool.and_assoc]; rfl

theorem maskShapes_eq : maskShapes vs2 src s = (narrow s vs2 :: srcShapes s src).all Shape.ok := by
  rw [maskShapes, srcOk_eq]; rfl

theorem extensionShapes_eq (k : Nat) : extensionShapes k vd vs2 s = [narrow s vd, fraction s k vs2].all Shape.ok := by
  simp only [List.all_cons, List.all_nil, Bool.and_true]; rfl

theorem reductionShapes_eq (aw : Nat) :
    reductionShapes aw vd vs2 vs1 s = [narrow s vs2, scalarAt aw vd, scalarAt aw vs1].all Shape.ok := by
  simp only [List.all_cons, List.all_nil, Bool.and_true, ← Bool.and_assoc]; rfl

theorem memoryOk_eq (e reg nf : Nat) : s.memoryOk e reg nf = [memoryAt s e reg nf].all Shape.ok :=
  (Bool.and_true _).symm

theorem indexedShapes_eq (e reg nf : Nat) :
    indexedShapes e reg vs2 nf s = [⟨reg, s.sew, s.lmulLog, nf⟩, memoryAt s e vs2 0].all Shape.ok := by
  simp only [List.all_cons, List.all_nil, Bool.and_true]; rfl

end

/-- A group of `2^k` whole registers passes `CheckOperand` exactly if it is aligned and ends inside the file (41_shape R458). -/
theorem wholeOk_eq {k : Nat} (hk : k ≤ 3) (reg : Nat) : wholeOk reg (2 ^ k) = [whole k reg].all Shape.ok := by
  have hbits : 2 ^ (k + 3) ≤ 2 ^ 6 := Nat.pow_le_pow_right (by omega) (by omega)
  have hlog : ((k : Int) + 3).toNat = k + 3 := by omega
  rw [List.all_cons, List.all_nil, Bool.and_true, Bool.eq_iff_iff, Shape.ok_iff]
  unfold wholeOk numVregs
  simp only [whole, regsPerField, Int.toNat_natCast, hlog, Bool.and_eq_true, beq_iff_eq, decide_eq_true_eq]
  exact ⟨fun ⟨halign, hend⟩ => ⟨.inl trivial, by omega, by omega, halign, by omega, by omega⟩,
    fun ⟨_, _, _, halign, _, hend⟩ => ⟨halign, by omega⟩⟩

/-! ### The commands over elements -/

/-- An instruction as a command whose shape check is that of the table of operands: an element loop, with or without a mask
destination (40_element_engine R400, R406). -/
inductive ElementCommand (s : State) (i : Instr) : Prop
  | plain {shapes : State → Bool} {act : Nat → State → Run (Bool × State)} {body : Nat → State → Run State}
      (runs : exec i s = runCommand shapes (elementLoop act body) s) (checks : shapes s = legal s i)
  | masking {shapes : State → Bool} {vd : Nat} {act : Nat → State → Run (Bool × State)} {body : Nat → State → Run State}
      (runs : exec i s = runCommand shapes (maskLoop act vd body) s) (checks : shapes s = legal s i)

/-- Every instruction but the reductions and the byte-granular accesses is an element loop (40_element_engine R406, R407,
47_reductions R950). -/
theorem exec_elementCommand {s : State} {i : Instr} (hred : reductionRows s i = none) (hbyte : byteRows s i = none) :
    ElementCommand s i := by
  cases i
  case vadd_vv | vadd_vx | vadd_vi | vsub_vv | vsub_vx | vrsub_vx | vrsub_vi | vminu_vv | vminu_vx | vmin_vv | vmin_vx |
      vmaxu_vv | vmaxu_vx | vmax_vv | vmax_vx | vand_vv | vand_vx | vand_vi | vor_vv | vor_vx | vor_vi | vxor_vv | vxor_vx |
      vxor_vi | vsaddu_vv | vsaddu_vx | vsaddu_vi | vsadd_vv | vsadd_vx | vsadd_vi | vssubu_vv | vssubu_vx | vssub_vv |
      vssub_vx | vsll_vv | vsll_vx | vsll_vi | vsmul_vv | vsmul_vx | vsrl_vv | vsrl_vx | vsrl_vi | vsra_vv | vsra_vx |
      vsra_vi | vssrl_vv | vssrl_vx | vssrl_vi | vssra_vv | vssra_vx | vssra_vi | vaaddu_vv | vaaddu_vx | vaadd_vv |
      vaadd_vx | vasubu_vv | vasubu_vx | vasub_vv | vasub_vx | vdivu_vv | vdivu_vx | vdiv_vv | vdiv_vx | vremu_vv | vremu_vx
      | vrem_vv | vrem_vx | vmulhu_vv | vmulhu_vx | vmul_vv | vmul_vx | vmulhsu_vv | vmulhsu_vx | vmulh_vv | vmulh_vx |
      vrgather_vv | vrgather_vx | vrgather_vi | vslideup_vx | vslideup_vi | vslidedown_vx | vslidedown_vi | vslide1up_vx |
      vslide1down_vx | vadc_vvm | vadc_vxm | vadc_vim | vsbc_vvm | vsbc_vxm | vmadd_vv | vmadd_vx | vnmsub_vv | vnmsub_vx |
      vmacc_vv | vmacc_vx | vnmsac_vv | vnmsac_vx =>
    exact .plain rfl (sameWidthShapes_eq ..)
  case vwaddu_vv | vwaddu_vx | vwadd_vv | vwadd_vx | vwsubu_vv | vwsubu_vx | vwsub_vv | vwsub_vx | vwmulu_vv | vwmulu_vx |
      vwmulsu_vv | vwmulsu_vx | vwmul_vv | vwmul_vx | vwmaccu_vv | vwmaccu_vx | vwmacc_vv | vwmacc_vx | vwmaccus_vx |
      vwmaccsu_vv | vwmaccsu_vx =>
    exact .plain rfl (wideningShapes_eq ..)
  case vwaddu_wv | vwaddu_wx | vwadd_wv | vwadd_wx | vwsubu_wv | vwsubu_wx | vwsub_wv | vwsub_wx =>
    exact .plain rfl (wideningWideShapes_eq ..)
  case vnsrl_wv | vnsrl_wx | vnsrl_wi | vnsra_wv | vnsra_wx | vnsra_wi | vnclipu_wv | vnclipu_wx | vnclipu_wi | vnclip_wv |
      vnclip_wx | vnclip_wi =>
    exact .plain rfl (narrowingShapes_eq ..)
  case vzext_vf8 | vsext_vf8 | vzext_vf4 | vsext_vf4 | vzext_vf2 | vsext_vf2 =>
    exact .plain rfl (extensionShapes_eq ..)
  case vmseq_vv | vmseq_vx | vmseq_vi | vmsne_vv | vmsne_vx | vmsne_vi | vmsltu_vv | vmsltu_vx | vmslt_vv | vmslt_vx |
      vmsleu_vv | vmsleu_vx | vmsleu_vi | vmsle_vv | vmsle_vx | vmsle_vi | vmsgtu_vx | vmsgtu_vi | vmsgt_vx | vmsgt_vi |
      vmadc_vv | vmadc_vx | vmadc_vi | vmsbc_vv | vmsbc_vx | vmadc_vvm | vmadc_vxm | vmadc_vim | vmsbc_vvm | vmsbc_vxm =>
    exact .masking rfl (maskShapes_eq ..)
  case vle8_v | vle16_v | vle32_v | vle64_v | vle8ff_v | vle16ff_v | vle32ff_v | vle64ff_v | vlse8_v | vlse16_v | vlse32_v |
      vlse64_v | vse8_v | vse16_v | vse32_v | vse64_v | vsse8_v | vsse16_v | vsse32_v | vsse64_v =>
    exact .plain (shapes := (State.memoryOk · _ _ _)) rfl (memoryOk_eq ..)
  case vluxei8_v | vloxei8_v | vluxei16_v | vloxei16_v | vluxei32_v | vloxei32_v | vluxei64_v | vloxei64_v | vsuxei8_v |
      vsoxei8_v | vsuxei16_v | vsoxei16_v | vsuxei32_v | vsoxei32_v | vsuxei64_v | vsoxei64_v =>
    exact .plain rfl (indexedShapes_eq ..)
  case vredsum_vs | vredand_vs | vredor_vs | vredxor_vs | vredminu_vs | vredmin_vs | vredmaxu_vs | vredmax_vs | vwredsumu_vs
      | vwredsum_vs =>
    cases hred
  case vl1re8_v | vl1re16_v | vl1re32_v | vl1re64_v | vl2re8_v | vl2re16_v | vl2re32_v | vl2re64_v | vl4re8_v | vl4re16_v |
      vl4re32_v | vl4re64_v | vl8re8_v | vl8re16_v | vl8re32_v | vl8re64_v | vs1r_v | vs2r_v | vs4r_v | vs8r_v | vlm_v |
      vsm_v =>
    cases hbyte

end Sys2Proof.Claims
end

section
/-! SUPPORT. Reductions and byte-granular accesses as commands, row by row (40_element_engine R400, R407, 47_reductions R950). -/

namespace Sys2Proof.Claims

open Sys2Proof.Machine Sys2Proof.Reference

/-! ### Reductions -/

/-- A command that runs the reduction of a row and completes with it (47_reductions R950). -/
inductive ReductionCommand (s : State) (r : Reduction) (o : Host.Outcome State Fault Refusal) : Prop
  | intro {shapes : State → Bool} {ext : BitVec r.w → BitVec r.aw} {op : BitVec r.aw → BitVec r.aw → BitVec r.aw}
      (runs : o = runCommand shapes (reduceRun r.w r.aw r.vm r.vd r.vs2 r.vs1 ext op) s) (checks : shapes s = true)
      (completes : Completes s o (r.run s))

section
variable {s : State} {vm : Bool} {vd vs2 vs1 : Nat} {op : (w : Nat) → BitVec w → BitVec w → BitVec w}

theorem reduce_command {f : BitVec s.sew → BitVec s.sew → BitVec s.sew} (hc : s.cfg.wf = true) (ht : s.typingOk = true)
    (hs : [narrow s vs2, scalarAt s.sew vd, scalarAt s.sew vs1].all Shape.ok = true) (hf : ∀ acc x, op s.sew acc x = f acc x) :
    ReductionCommand s ⟨vm, vd, vs2, vs1, s.sew, s.sew, f⟩ (reduce vm vd vs2 vs1 op s) := by
  obtain rfl : op s.sew = f := funext₂ hf
  rw [← reductionShapes_eq] at hs
  exact ⟨rfl, hs, reduce_completes op hc ht hs⟩

theorem reduceWide_command {ext : (w w2 : Nat) → BitVec w → BitVec w2}
    {f : BitVec (2 * s.sew) → BitVec s.sew → BitVec (2 * s.sew)} (hc : s.cfg.wf = true) (ht : s.typingOk = true)
    (hs : [narrow s vs2, scalarAt (2 * s.sew) vd, scalarAt (2 * s.sew) vs1].all Shape.ok = true)
    (hf : ∀ acc x, op (2 * s.sew) acc (ext s.sew (2 * s.sew) x) = f acc x) :
    ReductionCommand s ⟨vm, vd, vs2, vs1, 2 * s.sew, s.sew, f⟩ (reduceWide vm vd vs2 vs1 ext op s) := by
  obtain rfl : (fun acc x => op (2 * s.sew) acc (ext s.sew (2 * s.sew) x)) = f := funext₂ hf
  rw [← reductionShapes_eq] at hs
  exact ⟨rfl, hs, reduceWide_completes ext op hc ht hs⟩

end

theorem redSumOp_eq {w : Nat} (acc x : BitVec w) : redSumOp w acc x = acc + x := by simp [redSumOp]

theorem exec_reductionCommand {s : State} {i : Instr} {r : Reduction} (hrow : reductionRows s i = some r) (hr : Ready s i) :
    ReductionCommand s r (exec i s) := by
  obtain ⟨hinv, -, ht, hl⟩ := hr
  have hc := State.inv_cfg hinv
  unfold reductionRows at hrow
  split at hrow <;> cases hrow
  case h_1 | h_2 => exact reduceWide_command hc ht hl fun acc x => redSumOp_eq acc _
  case h_3 => exact reduce_command hc ht hl redSumOp_eq
  all_goals exact reduce_command hc ht hl fun _ _ => rfl

/-! ### Byte-granular accesses -/

/-- A command that runs the byte loop of a row; its body transfers a byte, or stops at the first call that faults
(40_element_engine R407). -/
inductive ByteCommand (s : State) (r : Access × Nat) (o : Host.Outcome State Fault Refusal) : Prop
  | intro {shapes : State → Bool} {run : State → Run State} {body : Nat → State → Run State}
      (access : ∃ call reg rs1, r.1 = byteAccess s call reg rs1) (runs : o = runCommand shapes run s) (checks : shapes s = true)
      (loops : run (inside s (view s) s.vstart s.readUnwritten)
        = byteSteps body (r.2 - s.vstart) s.vstart (inside s (view s) s.vstart s.readUnwritten))
      (moves : RunsAccess s r.1 r.2 body) (faults : FaultsAccess s r.1 r.2 body)

section
variable {s : State} {reg rs1 : Nat}

theorem wholeLoad_command {k : Nat} (hk : k ≤ 3) (hs : [whole k reg].all Shape.ok = true) :
    ByteCommand s (byteAccess s .read reg rs1, s.cfg.vlenb * 2 ^ k) (wholeLoad (2 ^ k) reg rs1 s) := by
  rw [← wholeOk_eq hk] at hs
  exact ⟨⟨_, _, _, rfl⟩, rfl, hs, rfl, loadByte_runs (wholeOk_inside hs), loadByte_faults (wholeOk_inside hs)⟩

theorem wholeStore_command {k : Nat} (hk : k ≤ 3) (hs : [whole k reg].all Shape.ok = true) :
    ByteCommand s (byteAccess s .write reg rs1, s.cfg.vlenb * 2 ^ k) (wholeStore (2 ^ k) reg rs1 s) := by
  rw [← wholeOk_eq hk] at hs
  exact ⟨⟨_, _, _, rfl⟩, rfl, hs, rfl, storeByte_runs (wholeOk_inside hs), storeByte_faults (wholeOk_inside hs)⟩

theorem maskLoad_command (ht : s.typingOk = true) (hreg : reg < 32) :
    ByteCommand s (byteAccess s .read reg rs1, (s.vl + 7) / 8) (execVlmV reg rs1 s) :=
  ⟨⟨_, _, _, rfl⟩, rfl, rfl, rfl, loadByte_runs (maskBytes_inside ht hreg), loadByte_faults (maskBytes_inside ht hreg)⟩

theorem maskStore_command (ht : s.typingOk = true) (hreg : reg < 32) :
    ByteCommand s (byteAccess s .write reg rs1, (s.vl + 7) / 8) (execVsmV reg rs1 s) :=
  ⟨⟨_, _, _, rfl⟩, rfl, rfl, rfl, storeByte_runs (maskBytes_inside ht hreg), storeByte_faults (maskBytes_inside ht hreg)⟩

end

theorem exec_byteCommand {s : State} {i : Instr} {r : Access × Nat} (hrow : byteRows s i = some r) (hr : Ready s i) :
    ByteCommand s r (exec i s) := by
  obtain ⟨-, hw, ht, hl⟩ := hr
  unfold byteRows at hrow
  split at hrow <;> cases hrow
  case h_1 | h_2 | h_3 | h_4 => exact wholeLoad_command (k := 0) (by omega) hl
  case h_5 => exact wholeStore_command (k := 0) (by omega) hl
  case h_6 | h_7 | h_8 | h_9 => exact wholeLoad_command (k := 1) (by omega) hl
  case h_10 => exact wholeStore_command (k := 1) (by omega) hl
  case h_11 | h_12 | h_13 | h_14 => exact wholeLoad_command (k := 2) (by omega) hl
  case h_15 => exact wholeStore_command (k := 2) (by omega) hl
  case h_16 | h_17 | h_18 | h_19 => exact wholeLoad_command (k := 3) (by omega) hl
  case h_20 => exact wholeStore_command (k := 3) (by omega) hl
  case h_21 => exact maskLoad_command ht (reg_lt hw)
  case h_22 => exact maskStore_command ht (reg_lt hw)

end Sys2Proof.Claims
end

section
/-! Commands with no element or byte left (40_element_engine R410, 47_reductions R951). -/

namespace Sys2Proof.Machine

open Sys2Proof.Reference Sys2Proof.Claims

section
variable {s : State}

/-- A command whose body leaves everything as it is only completes (40_element_engine R408, R410). -/
theorem runCommand_of_idle {shapes : State → Bool} {body : State → Run State} (ht : s.typingOk = true)
    (hs : shapes s = true) (hb : body s.clearHidden = .ok s.clearHidden) :
    runCommand shapes body s
      = .next { s.clearHidden with vstart := 0, result := some .done, pc := s.addr (s.pc + 4) } := by
  rw [runCommand, if_pos ht, if_pos hs, hb]
  rfl

/-- With no element left the loop does not run (40_element_engine R410). -/
theorem elementLoop_of_vl_le {act : Nat → State → Run (Bool × State)} {body : Nat → State → Run State}
    (h : s.vl ≤ s.vstart) : elementLoop act body s.clearHidden = .ok s.clearHidden := by
  have hn : s.clearHidden.vl - s.clearHidden.vstart = 0 := Nat.sub_eq_zero_of_le h
  rw [elementLoop, hn, elementSteps]

/-- With no byte touched no bit is free (40_element_engine R405). -/
theorem settleMask_of_touched_nil (h : s.touched = []) (vd : Nat) : s.settleMask vd = s := by
  unfold State.settleMask
  rw [h]
  split <;> rfl

theorem maskLoop_of_vl_le {act : Nat → State → Run (Bool × State)} {body : Nat → State → Run State} {vd : Nat}
    (h : s.vl ≤ s.vstart) : maskLoop act vd body s.clearHidden = .ok s.clearHidden := by
  rw [maskLoop, elementLoop_of_vl_le h]
  exact congrArg Except.ok (settleMask_of_touched_nil rfl vd)

/-- With no element left a reduction writes its seed (47_reductions R950, R951). -/
theorem reduced_of_vl_le {r : Reduction} (h : s.vl ≤ s.vstart) (hw : 0 < s.vl ∨ s.cfg.redWritesEmpty = true) :
    r.run s = (view s).put s.cfg r.aw r.vd 0 (elem s.cfg s.vrf r.aw r.vs1 0) := by
  have hwrites : ¬ (s.vl = 0 ∧ s.cfg.redWritesEmpty = false) := by
    rintro ⟨hvl, hempty⟩
    rcases hw with hpos | hset
    · omega
    · simp [hset] at hempty
  have hnone : elements s = [] := by rw [elements, Nat.sub_eq_zero_of_le h, List.range'_zero]
  rw [Reduction.run, reduced, if_neg hwrites, hnone]
  rfl

end

/-- Settles O23: an element or byte loop with nothing left does not run, and a reduction with nothing left writes its seed. -/
theorem nothingLeft : Obligations.NothingLeft := by
  intro i s hr finished
  obtain ⟨-, -, ht, hl⟩ := id hr
  refine ⟨fun hred hbyte hvl => ?_, fun r hrow hle => ?_, fun r hrow hvl hempty => ?_, fun r hrow hvl hw => ?_⟩
  · cases exec_elementCommand hred hbyte with
    | plain runs checks => rw [runs, runCommand_of_idle ht (checks.trans hl) (elementLoop_of_vl_le hvl)]
    | masking runs checks => rw [runs, runCommand_of_idle ht (checks.trans hl) (maskLoop_of_vl_le hvl)]
  · obtain ⟨-, runs, checks, loops, -, -⟩ := exec_byteCommand hrow hr
    rw [Nat.sub_eq_zero_of_le hle, ← clearHidden_eq_inside] at loops
    rw [runs, runCommand_of_idle ht checks loops]
  · obtain ⟨runs, checks, -⟩ := exec_reductionCommand hrow hr
    have hempty' : s.clearHidden.vl = 0 ∧ !s.clearHidden.cfg.redWritesEmpty := ⟨hvl, by simpa using hempty⟩
    rw [runs, runCommand_of_idle ht checks (if_pos hempty')]
  · obtain ⟨-, -, bad, hnext⟩ := exec_reductionCommand hrow hr
    have hcalls : calls s ((view s).put s.cfg r.aw r.vd 0 (elem s.cfg s.vrf r.aw r.vs1 0)) = 0 := Nat.sub_self _
    rw [reduced_of_vl_le hvl hw, inside, hcalls, List.drop_zero] at hnext
    exact ⟨bad, hnext⟩

end Sys2Proof.Machine
end

section
/-! SUPPORT. The frame of a memory access: what the fields of a load or store leave alone (42_memory_access R502, R504). -/

namespace Sys2Proof.Reference

open Sys2Proof.Machine Sys2Proof.Claims

/-- The changes of `v` are confined to `regs` and `stored`, and its stores are canonical, so that reads and writes of bytes are
independent (`Memory.read_write`). -/
structure StaysConfined (s : State) (regs stored : List Nat) (v : View) : Prop where
  vrf : Memory.wf v.vrf = true
  marks : Memory.wf v.marks = true
  mem : Memory.wf v.mem = true
  confined : Confined s v regs stored

variable {s : State} {a : Access} {regs stored : List Nat} {v : View}

theorem StaysConfined.start (h : s.Invariant) : StaysConfined s regs stored (view s) := by
  have hv := h.vrf
  have hm := h.marks
  have hx := h.mem
  simp only [Memory.fits, Bool.and_eq_true] at hv hm hx
  exact ⟨hv.1, hm.1, hx.1, rfl, fun _ _ => ⟨rfl, rfl⟩, fun _ _ => rfl⟩

theorem StaysConfined.put (h : StaysConfined s regs stored v) {w reg ei : Nat} (r : BitVec w)
    (hregs : elemBytes s.cfg w reg ei ⊆ regs) : StaysConfined s regs stored (v.put s.cfg w reg ei r) := by
  obtain ⟨hsat, hkeep, hmem⟩ := h.confined
  refine ⟨Memory.wf_writeList _ _ h.vrf, Memory.wf_fill _ _ h.marks, h.mem, hsat, fun b hb => ?_, hmem⟩
  have hout : b ∉ elemBytes s.cfg w reg ei := fun hin => hb (hregs hin)
  obtain ⟨hvrf, hmarks⟩ := hkeep b hb
  exact ⟨(Memory.read_writeList_of_notMem h.vrf _ _ _ hout).trans hvrf,
    ((Memory.read_fill h.marks _ _ _).trans (if_neg hout)).trans hmarks⟩

theorem StaysConfined.store (h : StaysConfined s regs stored v) {bytes : List Nat} (x : Nat) (hstored : bytes ⊆ stored) :
    StaysConfined s regs stored { v with mem := Memory.writeList v.mem bytes x } := by
  obtain ⟨hsat, hkeep, hmem⟩ := h.confined
  refine ⟨h.vrf, h.marks, Memory.wf_writeList _ _ h.mem, hsat, hkeep, fun b hb => ?_⟩
  exact (Memory.read_writeList_of_notMem h.mem _ _ _ fun hin => hb (hstored hin)).trans (hmem b hb)

/-- The record of calls is no part of the frame. -/
theorem StaysConfined.trace (h : StaysConfined s regs stored v) (t : List MemEvent) :
    StaysConfined s regs stored { v with trace := t } := ⟨h.vrf, h.marks, h.mem, h.confined⟩

/-- One field: a load writes its register bytes, a store its memory bytes. -/
theorem StaysConfined.field (h : StaysConfined s regs stored v) {z : Int} {ei fi : Nat}
    (hregs : a.call ≠ .write → elemBytes s.cfg a.w (a.fieldReg fi) ei ⊆ regs)
    (hstored : a.call = .write → memBytes s z (a.w / 8) ⊆ stored) : StaysConfined s regs stored (field s a z ei fi v) := by
  unfold Reference.field
  split
  next hc => exact (h.store _ (hstored hc)).trace _
  next hc => exact (h.put _ (hregs hc)).trace _

theorem StaysConfined.fieldsFrom {z : Nat → Int} {ei fi n : Nat}
    (hregs : a.call ≠ .write → ∀ f, fi ≤ f → f < fi + n → elemBytes s.cfg a.w (a.fieldReg f) ei ⊆ regs)
    (hstored : a.call = .write → ∀ f, fi ≤ f → f < fi + n → memBytes s (z f) (a.w / 8) ⊆ stored)
    (h : StaysConfined s regs stored v) : StaysConfined s regs stored (fieldsFrom s a z ei fi n v) := by
  induction n generalizing fi v with
  | zero => exact h
  | succ n ih =>
    rw [fieldsFrom_succ]
    exact ih (fun hc f hge hlt => hregs hc f (by omega) (by omega)) (fun hc f hge hlt => hstored hc f (by omega) (by omega))
      (h.field (fun hc => hregs hc fi (Nat.le_refl _) (by omega)) (fun hc => hstored hc fi (Nat.le_refl _) (by omega)))

/-- The first `n` fields of an element. -/
theorem StaysConfined.fields (h : StaysConfined s regs stored v) {n ei : Nat}
    (hregs : a.call ≠ .write → ∀ f < n, elemBytes s.cfg a.w (a.fieldReg f) ei ⊆ regs)
    (hstored : a.call = .write → ∀ f < n, memBytes s (a.addr v.vrf ei f) (a.w / 8) ⊆ stored) :
    StaysConfined s regs stored (fields s a n ei v) := by
  rw [fields_eq]
  exact h.fieldsFrom (fun hc f _ hlt => hregs hc f (by omega)) (fun hc f _ hlt => hstored hc f (by omega))

/-- The bytes of a byte-granular command change its own bytes only (42_memory_access R525 to R531). -/
theorem byteAccess_confined {call : CallKind} {reg rs1 : Nat} {act : View → Nat → Bool} {l : List Nat} (h : s.Invariant) :
    StaysConfined s (loadedBytes s (byteAccess s call reg rs1) (l.map fun j => (j, 0)))
      (storedBytes s (byteAccess s call reg rs1) (l.map fun j => (j, 0)))
      (runOver act (transfer s (byteAccess s call reg rs1)) l (view s)) := by
  refine runOver_induction (P := StaysConfined s _ _) (fun j hj v hv _ => hv.fields (fun hc f hf => ?_) (fun hc f hf => ?_))
    (.start h)
  · obtain rfl : f = 0 := by simpa [byteAccess] using hf
    rw [loadedBytes, if_neg hc]
    exact fun b hb => List.mem_flatMap.mpr ⟨(j, 0), List.mem_map_of_mem hj, hb⟩
  · obtain rfl : f = 0 := by simpa [byteAccess] using hf
    rw [storedBytes, if_pos hc]
    exact fun b hb => List.mem_flatMap.mpr ⟨(j, 0), List.mem_map_of_mem hj, hb⟩

end Sys2Proof.Reference
end

section
/-! The byte-granular accesses (40_element_engine R407, 42_memory_access R525 to R531). -/

namespace Sys2Proof.Machine

open Sys2Proof.Reference Sys2Proof.Claims

/-- Settles O52: while no call faults the byte loop completes with the fold of its transfers, each confined to its own byte. -/
theorem byteResults : Obligations.ByteResults := by
  intro s i r hrow hr hq
  obtain ⟨⟨call, reg, rs1, haccess⟩, runs, checks, loops, moves, -⟩ := exec_byteCommand hrow hr
  obtain ⟨hinv, -, ht, -⟩ := hr
  refine ⟨runs ▸ byte_completes loops hq ht checks moves, ?_⟩
  rw [haccess]
  exact (byteAccess_confined (State.inv_iff.mp hinv)).confined

/-- Settles O54: the byte loop stops at its first faulting call, with the bytes below it moved. -/
theorem byteFaultState : Obligations.ByteFaultState := by
  intro s i r j kind hrow hr hj hfault
  obtain ⟨⟨call, reg, rs1, haccess⟩, runs, checks, loops, moves, faults⟩ := exec_byteCommand hrow hr
  obtain ⟨hinv, -, ht, -⟩ := hr
  obtain ⟨hge, hlt⟩ := List.mem_range'_1.mp hj
  have hvm : r.1.vm = true := by rw [haccess]; rfl
  refine ⟨?_, ?_⟩
  · rw [beq_eq_decide, runs]
    exact byte_traps hvm loops ht checks moves faults hge (by omega) hfault
  · rw [haccess]
    exact ((byteAccess_confined (State.inv_iff.mp hinv)).trace _).confined

end Sys2Proof.Machine
end

section
/-! SUPPORT. The two-operand instructions row by row: each completes with the fold of its table's element function (43_alu, 44,
45_fixed_point, 46). -/

namespace Sys2Proof.Claims

open Sys2Proof.Machine Sys2Proof.Reference

theorem sew_eq_two_pow (s : State) : ∃ k, s.sew = 2 ^ k := ⟨s.sewLog, rfl⟩

theorem two_mul_sew_eq_two_pow (s : State) : ∃ k, 2 * s.sew = 2 ^ k := ⟨s.sewLog + 1, s.two_mul_sew⟩

/-- A command that completes with the fold of a row, whose elements are SEW or 2 SEW wide. -/
structure BinaryCommand (s : State) (r : Binary) (o : Host.Outcome State Fault Refusal) : Prop where
  completes : Completes s o (r.run s)
  width : r.wd = s.sew ∨ r.wd = 2 * s.sew

section
variable {s : State} {vm : Bool} {vd vs2 : Nat} {src : Src} {i : Instr}

theorem sameWidth_command {f : (w : Nat) → ElemFn w w w} {g : BitVec s.sew → BitVec s.sew → BitVec s.sew × Bool}
    (ht : s.typingOk = true) (hs : (narrow s vd :: narrow s vs2 :: srcShapes s src).all Shape.ok = true)
    (hf : ∀ b a, f s.sew b a = g b a) :
    BinaryCommand s ⟨vm, vd, vs2, src, s.sew, s.sew, s.sew, g⟩ (sameWidth vm vd vs2 src f s) := by
  obtain rfl : f s.sew = g := funext₂ hf
  rw [← sameWidthShapes_eq] at hs
  exact ⟨sameWidth_completes f ht hs, .inl rfl⟩

theorem widening_command {f : (w : Nat) → BitVec w → BitVec w → BitVec (2 * w)}
    {g : BitVec s.sew → BitVec s.sew → BitVec (2 * s.sew)} (ht : s.typingOk = true)
    (hs : (wide s vd :: narrow s vs2 :: srcShapes s src).all Shape.ok = true) (hf : ∀ b a, f s.sew b a = g b a) :
    BinaryCommand s ⟨vm, vd, vs2, src, s.sew, s.sew, 2 * s.sew, fun b a => (g b a, false)⟩ (widening vm vd vs2 src f s) := by
  obtain rfl : f s.sew = g := funext₂ hf
  rw [← wideningShapes_eq] at hs
  exact ⟨widening_completes f ht hs, .inr rfl⟩

theorem wideningWide_command {f : (w : Nat) → BitVec (2 * w) → BitVec w → BitVec (2 * w)}
    {g : BitVec (2 * s.sew) → BitVec s.sew → BitVec (2 * s.sew)} (ht : s.typingOk = true)
    (hs : (wide s vd :: wide s vs2 :: srcShapes s src).all Shape.ok = true) (hf : ∀ b a, f s.sew b a = g b a) :
    BinaryCommand s ⟨vm, vd, vs2, src, 2 * s.sew, s.sew, 2 * s.sew, fun b a => (g b a, false)⟩
      (wideningWide vm vd vs2 src f s) := by
  obtain rfl : f s.sew = g := funext₂ hf
  rw [← wideningWideShapes_eq] at hs
  exact ⟨wideningWide_completes f ht hs, .inr rfl⟩

theorem narrowing_command {f : (w : Nat) → ElemFn (2 * w) w w}
    {g : BitVec (2 * s.sew) → BitVec s.sew → BitVec s.sew × Bool} (ht : s.typingOk = true)
    (hs : (narrow s vd :: wide s vs2 :: srcShapes s src).all Shape.ok = true) (hf : ∀ b a, f s.sew b a = g b a) :
    BinaryCommand s ⟨vm, vd, vs2, src, 2 * s.sew, s.sew, s.sew, g⟩ (narrowing vm vd vs2 src f s) := by
  obtain rfl : f s.sew = g := funext₂ hf
  rw [← narrowingShapes_eq] at hs
  exact ⟨narrowing_completes f ht hs, .inl rfl⟩

/-- Element functions that never set `vxsat` agree where their results do. -/
theorem plain_eq {w2 w1 wd : Nat} {f g : BitVec w2 → BitVec w1 → BitVec wd} (h : ∀ b a, f b a = g b a) (b : BitVec w2)
    (a : BitVec w1) : plain f b a = (g b a, false) := congrArg (·, false) (h b a)

theorem same_command {f : (w : Nat) → BitVec w → BitVec w → BitVec w} {g : BitVec s.sew → BitVec s.sew → BitVec s.sew}
    (ht : s.typingOk = true) (hs : (narrow s vd :: narrow s vs2 :: srcShapes s src).all Shape.ok = true)
    (hf : ∀ b a, f s.sew b a = g b a) :
    BinaryCommand s ⟨vm, vd, vs2, src, s.sew, s.sew, s.sew, fun b a => (g b a, false)⟩
      (sameWidth vm vd vs2 src (fun w => plain (f w)) s) :=
  sameWidth_command ht hs (plain_eq hf)

theorem shiftNarrow_command {f : (w : Nat) → BitVec (2 * w) → BitVec w → BitVec w}
    {g : BitVec (2 * s.sew) → BitVec s.sew → BitVec s.sew} (ht : s.typingOk = true)
    (hs : (narrow s vd :: wide s vs2 :: srcShapes s src).all Shape.ok = true) (hf : ∀ b a, f s.sew b a = g b a) :
    BinaryCommand s ⟨vm, vd, vs2, src, 2 * s.sew, s.sew, s.sew, fun b a => (g b a, false)⟩
      (narrowing vm vd vs2 src (fun w => plain (f w)) s) :=
  narrowing_command ht hs (plain_eq hf)

/-! ### Table by table -/

variable {r : Binary}

theorem exec_addRows (hrow : addRows s i = some r) (hr : Ready s i) : BinaryCommand s r (exec i s) := by
  obtain ⟨-, -, ht, hl⟩ := hr
  unfold addRows at hrow
  split at hrow <;> cases hrow
  case h_1 | h_2 | h_3 => exact same_command ht hl addElem_eq
  case h_4 | h_5 => exact same_command ht hl subElem_eq
  case h_6 | h_7 => exact same_command ht hl rsubElem_eq
  case h_8 | h_9 => exact same_command ht hl minuElem_eq
  case h_10 | h_11 => exact same_command ht hl minElem_eq
  case h_12 | h_13 => exact same_command ht hl maxuElem_eq
  case h_14 | h_15 => exact same_command ht hl maxElem_eq
  case h_16 | h_17 => exact same_command ht hl mulElem_eq

theorem exec_logicRows (hrow : logicRows s i = some r) (hr : Ready s i) : BinaryCommand s r (exec i s) := by
  obtain ⟨-, -, ht, hl⟩ := hr
  have hsew := sew_eq_two_pow s
  unfold logicRows at hrow
  split at hrow <;> cases hrow
  case h_1 | h_2 | h_3 => exact same_command ht hl andElem_eq
  case h_4 | h_5 | h_6 => exact same_command ht hl orElem_eq
  case h_7 | h_8 | h_9 => exact same_command ht hl xorElem_eq
  case h_10 | h_11 | h_12 => exact same_command ht hl fun b a => sllElem_eq b a hsew
  case h_13 | h_14 | h_15 => exact same_command ht hl fun b a => srlElem_eq b a hsew
  case h_16 | h_17 | h_18 => exact same_command ht hl fun b a => sraElem_eq b a hsew

theorem exec_wideningRows (hrow : wideningRows s i = some r) (hr : Ready s i) : BinaryCommand s r (exec i s) := by
  obtain ⟨-, -, ht, hl⟩ := hr
  unfold wideningRows at hrow
  split at hrow <;> cases hrow
  case h_1 | h_2 => exact widening_command ht hl wadduElem_eq
  case h_3 | h_4 => exact widening_command ht hl waddElem_eq
  case h_5 | h_6 => exact widening_command ht hl wsubuElem_eq
  case h_7 | h_8 => exact widening_command ht hl wsubElem_eq
  case h_9 | h_10 => exact wideningWide_command ht hl fun b a => wadduWElem_eq a b
  case h_11 | h_12 => exact wideningWide_command ht hl fun b a => waddWElem_eq a b
  case h_13 | h_14 => exact wideningWide_command ht hl fun b a => wsubuWElem_eq a b
  case h_15 | h_16 => exact wideningWide_command ht hl fun b a => wsubWElem_eq a b
  case h_17 | h_18 => exact widening_command ht hl wmuluElem_eq
  case h_19 | h_20 => exact widening_command ht hl wmulsuElem_eq
  case h_21 | h_22 => exact widening_command ht hl wmulElem_eq

theorem exec_narrowingRows (hrow : narrowingRows s i = some r) (hr : Ready s i) : BinaryCommand s r (exec i s) := by
  obtain ⟨-, -, ht, hl⟩ := hr
  have hwide := two_mul_sew_eq_two_pow s
  unfold narrowingRows at hrow
  split at hrow <;> cases hrow
  case h_1 | h_2 | h_3 => exact shiftNarrow_command ht hl fun b a => nsrlElem_eq a hwide b
  case h_4 | h_5 | h_6 => exact shiftNarrow_command ht hl fun b a => nsraElem_eq a hwide b

theorem exec_saturatingRows (hrow : saturatingRows s i = some r) (hr : Ready s i) : BinaryCommand s r (exec i s) := by
  obtain ⟨-, -, ht, hl⟩ := hr
  unfold saturatingRows at hrow
  split at hrow <;> cases hrow
  case h_1 | h_2 | h_3 => exact sameWidth_command ht hl sadduElem_eq
  case h_4 | h_5 | h_6 => exact sameWidth_command ht hl saddElem_eq
  case h_7 | h_8 => exact sameWidth_command ht hl ssubuElem_eq
  case h_9 | h_10 => exact sameWidth_command ht hl ssubElem_eq

theorem exec_averagingRows (hrow : averagingRows s i = some r) (hr : Ready s i) : BinaryCommand s r (exec i s) := by
  obtain ⟨-, -, ht, hl⟩ := hr
  have hsew := sew_eq_two_pow s
  unfold averagingRows at hrow
  split at hrow <;> cases hrow
  case h_1 | h_2 | h_3 => exact same_command ht hl fun b a => ssrlElem_eq b a hsew s.vxrm
  case h_4 | h_5 | h_6 => exact same_command ht hl fun b a => ssraElem_eq b a hsew s.vxrm
  case h_7 | h_8 => exact same_command ht hl fun b a => aadduElem_eq b a s.vxrm
  case h_9 | h_10 => exact same_command ht hl fun b a => aaddElem_eq b a s.vxrm
  case h_11 | h_12 => exact same_command ht hl fun b a => asubuElem_eq b a s.vxrm
  case h_13 | h_14 => exact same_command ht hl fun b a => asubElem_eq b a s.vxrm

theorem exec_fractionalRows (hrow : fractionalRows s i = some r) (hr : Ready s i) : BinaryCommand s r (exec i s) := by
  obtain ⟨-, -, ht, hl⟩ := hr
  unfold fractionalRows at hrow
  split at hrow <;> cases hrow
  case h_1 | h_2 => exact sameWidth_command ht hl fun b a => smulElem_eq b a s.vxrm
  case h_3 | h_4 | h_5 => exact narrowing_command ht hl (nclipuElem_eq s)
  case h_6 | h_7 | h_8 => exact narrowing_command ht hl (nclipElem_eq s)

theorem exec_multiplyDivideRows (hrow : multiplyDivideRows s i = some r) (hr : Ready s i) : BinaryCommand s r (exec i s) := by
  obtain ⟨-, -, ht, hl⟩ := hr
  unfold multiplyDivideRows at hrow
  split at hrow <;> cases hrow
  case h_1 | h_2 => exact same_command ht hl divuElem_eq
  case h_3 | h_4 => exact same_command ht hl divElem_eq
  case h_5 | h_6 => exact same_command ht hl remuElem_eq
  case h_7 | h_8 => exact same_command ht hl remElem_eq
  case h_9 | h_10 => exact same_command ht hl mulhuElem_eq
  case h_11 | h_12 => exact same_command ht hl mulhsuElem_eq
  case h_13 | h_14 => exact same_command ht hl mulhElem_eq

theorem exec_binaryRows (hrow : binaryRows s i = some r) (hr : Ready s i) : BinaryCommand s r (exec i s) := by
  simp only [binaryRows, Option.orElse_eq_orElse, Option.orElse_eq_or, Option.or_eq_some_iff] at hrow
  rcases hrow with h | ⟨-, h | ⟨-, h | ⟨-, h | ⟨-, h | ⟨-, h | ⟨-, h | ⟨-, h⟩⟩⟩⟩⟩⟩⟩
  · exact exec_addRows h hr
  · exact exec_logicRows h hr
  · exact exec_wideningRows h hr
  · exact exec_narrowingRows h hr
  · exact exec_saturatingRows h hr
  · exact exec_averagingRows h hr
  · exact exec_fractionalRows h hr
  · exact exec_multiplyDivideRows h hr

end

end Sys2Proof.Claims
end

section
/-! Two-operand instructions without overlap (40_element_engine R409, R411, 70_reset R1311, R1312). -/

namespace Sys2Proof.Claims

open Sys2Proof.Machine Sys2Proof.Reference

/-! ### One element's bytes -/

section
variable {c : Config} {w reg ei ej : Nat}

theorem nodup_elemBytes : (elemBytes c w reg ei).Nodup := List.nodup_range'

theorem length_elemBytes : (elemBytes c w reg ei).length = w / 8 := List.length_range'

/-- Two elements of one register group share no byte (40_element_engine R401). -/
theorem notMem_elemBytes_of_ne (hne : ei ≠ ej) {a : Nat} (ha : a ∈ elemBytes c w reg ei) : a ∉ elemBytes c w reg ej := by
  intro ha'
  obtain ⟨hlo, hhi⟩ := List.mem_range'_1.mp ha
  obtain ⟨hlo', hhi'⟩ := List.mem_range'_1.mp ha'
  have hnext : ∀ {m n : Nat}, m < n → m * (w / 8) + w / 8 ≤ n * (w / 8) := fun h =>
    Nat.succ_mul _ (w / 8) ▸ Nat.mul_le_mul_right (w / 8) (Nat.succ_le_of_lt h)
  rcases Nat.lt_or_gt_of_ne hne with h | h
  · have := hnext h
    omega
  · have := hnext h
    omega

theorem elem_congr {m m' : Memory} (h : ∀ a ∈ elemBytes c w reg ei, Memory.read m a = Memory.read m' a) :
    elem c m w reg ei = elem c m' w reg ei := congrArg (BitVec.ofNat w) (Memory.readList_congr _ h)

/-- An element reads back as it was written (40_element_engine R402). -/
theorem elem_put_self {v : View} (hw : 8 ∣ w) (hv : Memory.wf v.vrf = true) (r : BitVec w) :
    elem c (v.put c w reg ei r).vrf w reg ei = r := by
  have hread := Memory.readList_writeList hv (elemBytes c w reg ei) r.toNat nodup_elemBytes
  have hpow : 256 ^ (elemBytes c w reg ei).length = 2 ^ w := by
    rw [length_elemBytes, show 256 = 2 ^ 8 from rfl, ← Nat.pow_mul, Nat.mul_div_cancel' hw]
  rw [hpow, Nat.mod_eq_of_lt r.isLt] at hread
  exact (congrArg (BitVec.ofNat w) hread).trans (BitVec.ofNat_toNat w r |>.trans (BitVec.setWidth_eq r))

theorem read_put_of_notMem {v : View} (hv : Memory.wf v.vrf = true) (r : BitVec w) {a : Nat} (ha : a ∉ elemBytes c w reg ei) :
    Memory.read (v.put c w reg ei r).vrf a = Memory.read v.vrf a := Memory.read_writeList_of_notMem hv _ _ _ ha

end

theorem eight_dvd_width {s : State} {r : Binary} (ht : s.typingOk = true) (h : r.wd = s.sew ∨ r.wd = 2 * s.sew) : 8 ∣ r.wd := by
  have hsew : 8 ∣ s.sew := pow_dvd_pow 2 (State.sewLog_bounds ht).1
  rcases h with h | h
  · exact h ▸ hsew
  · exact h ▸ hsew.mul_left 2

/-! ### Independent elements -/

/-- Element `ei` writes no byte that element `ej` reads (70_reset R1311, R1312). -/
def Independent (s : State) (r : Binary) (ei ej : Nat) : Prop :=
  ∀ a ∈ elemBytes s.cfg r.wd r.vd ei,
    a ∉ elemBytes s.cfg r.w2 r.vs2 ej ∧ (∀ vs1, r.src = .vec vs1 → a ∉ elemBytes s.cfg r.w1 vs1 ej) ∧ (r.vm = false → a ≠ ej / 8)

theorem separate_iff {s : State} {r : Binary} :
    Separate s r ↔ ∀ ei ∈ elements s, ∀ ej ∈ elements s, ei < ej → Independent s r ei ej := Iff.rfl

/-- The elements of a command, in rising order, each independent of the earlier ones. -/
theorem Separate.pairwise {s : State} {r : Binary} (h : Separate s r) :
    (elements s).Pairwise fun ei ej => ei ≠ ej ∧ Independent s r ei ej := by
  have hlt : (elements s).Pairwise (· < ·) := List.pairwise_lt_range'
  exact hlt.imp_of_mem fun hi hj hij => ⟨Nat.ne_of_lt hij, separate_iff.mp h _ hi _ hj hij⟩

/-- The value element `ei` ends with, and whether it clamps, on the register file as the command found it. -/
def Binary.target (s : State) (r : Binary) (ei : Nat) : BitVec r.wd :=
  if active s r.vm (view s) ei then (r.onOriginals s ei).1 else elem s.cfg s.vrf r.wd r.vd ei

def Binary.clamps (s : State) (r : Binary) (ei : Nat) : Bool := active s r.vm (view s) ei && (r.onOriginals s ei).2

/-- After the elements of `l`: each has its own result, no other byte changed, and `vxsat` is the old flag or a clamp of one of
them. -/
structure Parallel (s : State) (r : Binary) (l : List Nat) (v : View) : Prop where
  wf : Memory.wf v.vrf = true
  outside : ∀ a, (∀ ei ∈ l, a ∉ elemBytes s.cfg r.wd r.vd ei) → Memory.read v.vrf a = Memory.read s.vrf a
  targets : ∀ ei ∈ l, elem s.cfg v.vrf r.wd r.vd ei = r.target s ei
  sat : v.sat = (s.vxsat || l.any (r.clamps s))

section
variable {s : State} {r : Binary} {l : List Nat} {v : View} {ej : Nat}

theorem Parallel.start (h : s.Invariant) : Parallel s r [] (view s) := by
  have hv := h.vrf
  simp only [Memory.fits, Bool.and_eq_true] at hv
  exact ⟨hv.1, fun _ _ => rfl, by simp, by simp [view]⟩

/-- Bytes that no earlier element writes hold an element as the command found it. -/
theorem Parallel.elem_eq (h : Parallel s r l v) {w reg : Nat}
    (hout : ∀ ei ∈ l, ∀ a ∈ elemBytes s.cfg r.wd r.vd ei, a ∉ elemBytes s.cfg w reg ej) :
    elem s.cfg v.vrf w reg ej = elem s.cfg s.vrf w reg ej :=
  elem_congr fun a ha => h.outside a fun ei hei hmem => hout ei hei a hmem ha

theorem Parallel.op1_eq (h : Parallel s r l v) (hind : ∀ ei ∈ l, Independent s r ei ej) :
    op1 s r.w1 r.src v ej = op1 s r.w1 r.src (view s) ej := by
  cases hsrc : r.src with
  | vec vs1 => exact h.elem_eq fun ei hei a ha => (hind ei hei a ha).2.1 vs1 hsrc
  | scalar | simm | uimm => rfl

theorem Parallel.active_eq (h : Parallel s r l v) (hind : ∀ ei ∈ l, Independent s r ei ej) :
    active s r.vm v ej = active s r.vm (view s) ej := by
  cases hvm : r.vm with
  | true => rfl
  | false =>
    have hread : Memory.read v.vrf (ej / 8) = Memory.read s.vrf (ej / 8) :=
      h.outside _ fun ei hei hmem => (hind ei hei _ hmem).2.2 hvm rfl
    simp only [active, maskBit, view, Nat.zero_mul, Nat.zero_add, hread]

/-- The body of the next element computes on its operands as the command found them (40_element_engine R409). -/
theorem Parallel.body_eq (h : Parallel s r l v) (hind : ∀ ei ∈ l, Independent s r ei ej) :
    binary s r.w2 r.w1 r.wd r.vd r.vs2 r.src r.f ej v
      = { v.put s.cfg r.wd r.vd ej (r.onOriginals s ej).1 with sat := v.sat || (r.onOriginals s ej).2 } := by
  have hop2 : elem s.cfg v.vrf r.w2 r.vs2 ej = elem s.cfg s.vrf r.w2 r.vs2 ej :=
    h.elem_eq fun ei hei a ha => (hind ei hei a ha).1
  simp only [binary, Binary.onOriginals, hop2, h.op1_eq hind]

/-- An active element is written, and its clamp is noted. -/
theorem Parallel.step_active (h : Parallel s r l v) (hw : 8 ∣ r.wd) (hne : ∀ ei ∈ l, ei ≠ ej)
    (ha : active s r.vm (view s) ej = true) : Parallel s r (l ++ [ej])
      { v.put s.cfg r.wd r.vd ej (r.onOriginals s ej).1 with sat := v.sat || (r.onOriginals s ej).2 } where
  wf := Memory.wf_writeList _ _ h.wf
  outside a hout := by
    simp only [List.forall_mem_append, List.forall_mem_singleton] at hout
    exact (read_put_of_notMem h.wf _ hout.2).trans (h.outside a hout.1)
  targets := by
    simp only [List.forall_mem_append, List.forall_mem_singleton]
    constructor
    · intro ei hei
      have hkeep := elem_congr (c := s.cfg) (w := r.wd) (reg := r.vd) (ei := ei) fun a hmem =>
        read_put_of_notMem h.wf (r.onOriginals s ej).1 (notMem_elemBytes_of_ne (hne ei hei) hmem)
      exact hkeep.trans (h.targets ei hei)
    · exact (elem_put_self hw h.wf _).trans (if_pos ha).symm
  sat := by simp [h.sat, Binary.clamps, ha, Bool.or_assoc]

/-- An inactive element is left as it was (40_element_engine R411). -/
theorem Parallel.step_inactive (h : Parallel s r l v) (hne : ∀ ei ∈ l, ei ≠ ej)
    (ha : active s r.vm (view s) ej = false) : Parallel s r (l ++ [ej]) v where
  wf := h.wf
  outside a hout := h.outside a fun ei hei => hout ei (List.mem_append_left _ hei)
  targets := by
    simp only [List.forall_mem_append, List.forall_mem_singleton]
    have hkeep := h.elem_eq fun ei hei a hmem => notMem_elemBytes_of_ne (hne ei hei) hmem
    exact ⟨h.targets, hkeep.trans (if_neg (by simp [ha])).symm⟩
  sat := by simp [h.sat, Binary.clamps, ha]

/-- Elements each independent of the earlier ones run as if all at once. -/
theorem parallel_runOver (hs : s.Invariant) (hw : 8 ∣ r.wd) (l : List Nat)
    (hl : l.Pairwise fun ei ej => ei ≠ ej ∧ Independent s r ei ej) :
    Parallel s r l (runOver (active s r.vm) (binary s r.w2 r.w1 r.wd r.vd r.vs2 r.src r.f) l (view s)) := by
  induction l using List.reverseRecOn with
  | nil => exact .start hs
  | append_singleton l ej ih =>
    rw [List.pairwise_append] at hl
    obtain ⟨hl, -, hlast⟩ := hl
    have h := ih hl
    have hne : ∀ ei ∈ l, ei ≠ ej := fun ei hei => (hlast ei hei ej (List.mem_singleton_self ej)).1
    have hind : ∀ ei ∈ l, Independent s r ei ej := fun ei hei => (hlast ei hei ej (List.mem_singleton_self ej)).2
    rw [runOver_append]
    simp only [runOver, List.foldl_cons, List.foldl_nil] at h ⊢
    rw [h.active_eq hind]
    split
    next ha => exact h.body_eq hind ▸ h.step_active hw hne ha
    next ha => exact h.step_inactive hne (Bool.eq_false_iff.mpr ha)

end

end Sys2Proof.Claims

namespace Sys2Proof.Machine

open Sys2Proof.Reference Sys2Proof.Claims

/-- Settles O57: the command completes with the fold of its row (`exec_binaryRows`), and by induction on the elements each works
on what the command found (`parallel_runOver`). -/
theorem parallelResults : Obligations.ParallelResults := by
  intro s i r hrow hready hsep
  obtain ⟨hinv, -, ht, -⟩ := id hready
  obtain ⟨⟨bad, hexec⟩, hwidth⟩ := exec_binaryRows hrow hready
  have h := parallel_runOver (State.inv_iff.mp hinv) (eight_dvd_width ht hwidth) (elements s) hsep.pairwise
  exact ⟨_, hexec, rfl, h.targets, h.sat⟩

end Sys2Proof.Machine
end

section
/-! `CheckOperand` with EMUL an exact number (41_shape R452 to R456). -/

namespace Sys2Proof.Machine

/-- EMUL is legal exactly if its exponent is from -3 to 3 (41_shape R453). -/
theorem two_zpow_mem_legalEmuls_iff (e : ℤ) :
    (2 : ℚ) ^ e ∈ ([1 / 8, 1 / 4, 1 / 2, 1, 2, 4, 8] : List ℚ) ↔ -3 ≤ e ∧ e ≤ 3 := by
  constructor
  · intro h
    have hbounds : (2 : ℚ) ^ (-3 : ℤ) ≤ 2 ^ e ∧ (2 : ℚ) ^ e ≤ 2 ^ (3 : ℤ) := by
      simp only [List.mem_cons, List.not_mem_nil, or_false] at h
      rcases h with h | h | h | h | h | h | h <;> rw [h] <;> norm_num
    exact ⟨(zpow_le_zpow_iff_right₀ one_lt_two).mp hbounds.1, (zpow_le_zpow_iff_right₀ one_lt_two).mp hbounds.2⟩
  · rintro ⟨hlo, hhi⟩
    interval_cases e <;> norm_num

/-- EMUL counted in eighths of a register, exactly. -/
theorem cast_eighths {e : ℤ} (he : -3 ≤ e) : ((2 ^ (e + 3).toNat : ℕ) : ℚ) = 2 ^ e * 8 := by
  have hexp : ((e + 3).toNat : ℤ) = e + 3 := Int.toNat_of_nonneg (by omega)
  rw [Nat.cast_pow, Nat.cast_ofNat, ← zpow_natCast, hexp, zpow_add₀ two_ne_zero]
  norm_num

/-- Alignment binds only where EMUL is at least 1 (41_shape R454). -/
theorem aligned_iff (reg : ℕ) (e : ℤ) :
    reg % regsPerField e = 0 ↔ ((1 : ℚ) ≤ 2 ^ e → ∃ k : ℕ, (reg : ℚ) = k * 2 ^ e) := by
  have hmax := regsPerField_eq_max e
  by_cases h1 : (1 : ℚ) ≤ 2 ^ e
  · rw [max_eq_right h1] at hmax
    rw [← hmax, ← Nat.dvd_iff_mod_eq_zero]
    constructor
    · rintro ⟨k, rfl⟩ -
      exact ⟨k, by push_cast; ring⟩
    · intro h
      obtain ⟨k, hk⟩ := h (by rw [hmax]; exact h1)
      exact ⟨k, by rw [Nat.mul_comm]; exact_mod_cast hk⟩
  · rw [max_eq_left (not_le.mp h1).le] at hmax
    rw [Nat.cast_eq_one.mp hmax]
    exact ⟨fun _ h => absurd h h1, fun _ => Nat.mod_one reg⟩

/-- The fields together take at most eight registers (41_shape R455). -/
theorem fieldsFit_iff (nf : ℕ) {e : ℤ} (he : -3 ≤ e) :
    (nf + 1) * 2 ^ (e + 3).toNat ≤ 64 ↔ ((nf : ℚ) + 1) * 2 ^ e ≤ 8 := by
  rw [← Nat.cast_le (α := ℚ), Nat.cast_mul, cast_eighths he]
  push_cast
  constructor <;> intro h <;> linarith

/-- The fields end inside the register file (41_shape R455). -/
theorem endsInside_iff (reg nf : ℕ) (e : ℤ) :
    reg + (nf + 1) * regsPerField e ≤ 32 ↔ (reg : ℚ) + (nf + 1) * max 1 (2 ^ e) ≤ 32 := by
  rw [← regsPerField_eq_max]
  norm_cast

/-- Settles O21: check by check, a shape's numbers are those of EMUL as an exact power of two. -/
theorem checkOperand : Obligations.CheckOperand := by
  intro o emul
  have heew : o.eew ∈ [8, 16, 32, 64] ∧ o.eew ≤ 64 ↔ o.eew = 8 ∨ o.eew = 16 ∨ o.eew = 32 ∨ o.eew = 64 := by
    simp only [List.mem_cons, List.not_mem_nil, or_false]
    omega
  rw [Shape.ok_iff, ← and_assoc (b := o.eew ≤ 64), heew, two_zpow_mem_legalEmuls_iff, and_assoc (b := o.emul ≤ 3),
    aligned_iff, endsInside_iff]
  refine and_congr_right fun _ => and_congr_right fun hlo => ?_
  rw [fieldsFit_iff o.nf hlo]

end Sys2Proof.Machine
end

section
/-! SUPPORT. What a run raises: every trap from inside a command is a memory fault (41_shape R451, 60_exceptions R1200, R1206). -/

namespace Sys2Proof.Reference

open Sys2Proof.Machine

/-- A part of a run that does not raise illegal-instruction. -/
def NoIllegal {α : Type} : Run α → Prop
  | .error (.trap .illegalInstruction _) => False
  | .error (.trap (.memFault _ _) _) | .error (.finished _) | .error (.fault _) | .ok _ => True

theorem NoIllegal.ok {α : Type} (a : α) : NoIllegal (.ok a) := trivial

theorem NoIllegal.fault {α : Type} (f : Fault) : NoIllegal (α := α) (.error (.fault f)) := trivial

theorem NoIllegal.finished {α : Type} (s : State) : NoIllegal (α := α) (.error (.finished s)) := trivial

theorem NoIllegal.memFault {α : Type} (store : Bool) (info : FaultInfo) (s : State) :
    NoIllegal (α := α) (.error (.trap (.memFault store info) s)) := trivial

theorem NoIllegal.bind {α β : Type} {r : Run α} {f : α → Run β} (h : NoIllegal r) (hf : ∀ a, NoIllegal (f a)) :
    NoIllegal (r >>= f) := by
  match r with
  | .ok a => exact hf a
  | .error (.trap .illegalInstruction _) => exact h
  | .error (.trap (.memFault _ _) _) | .error (.finished _) | .error (.fault _) => exact trivial

theorem NoIllegal.ite {α : Type} {c : Prop} [Decidable c] {r r' : Run α} (h : NoIllegal r) (h' : NoIllegal r') :
    NoIllegal (if c then r else r') := by
  split
  · exact h
  · exact h'

/-- A command whose run raises no illegal-instruction does not end in one. -/
theorem NoIllegal.result_ne {r : Run State} {t : State} (h : NoIllegal r) (ht : finish r = .next t) :
    t.result ≠ some (.trap .illegalInstruction) := by
  match r with
  | .ok u | .error (.finished u) => cases ht; exact nofun
  | .error (.trap .illegalInstruction u) => exact h.elim
  | .error (.trap (.memFault _ _) u) => cases ht; exact nofun
  | .error (.fault _) => cases ht

variable {s : State}

/-! ### The accessors -/

theorem vreadAt_noIllegal {w off : Nat} : NoIllegal (vreadAt w off s) := .ite (.ok _) (.fault _)

theorem vwriteAt_noIllegal {w off : Nat} {v : BitVec w} : NoIllegal (vwriteAt w off v s) := .ite (.ok _) (.fault _)

theorem vread_noIllegal {w reg ei : Nat} : NoIllegal (vread w reg ei s) := vreadAt_noIllegal

theorem vwrite_noIllegal {w reg ei : Nat} {v : BitVec w} : NoIllegal (vwrite w reg ei v s) := vwriteAt_noIllegal

theorem maskbit_noIllegal {ei : Nat} : NoIllegal (maskbit ei s) := .ite (.ok _) (.fault _)

theorem mwrite_noIllegal {vd ei : Nat} {b : Bool} : NoIllegal (mwrite vd ei b s) := .ite (.ok _) (.fault _)

theorem activeElement_noIllegal {vm : Bool} {ei : Nat} : NoIllegal (activeElement vm ei s) :=
  .ite (.ok _) maskbit_noIllegal

theorem operand1_noIllegal {w ei : Nat} {src : Src} : NoIllegal (operand1 w src ei s) := by
  cases src with
  | vec _ => exact vread_noIllegal
  | scalar _ | simm _ | uimm _ => exact .ok _

theorem indexOperand_noIllegal {w ei : Nat} {src : Src} : NoIllegal (indexOperand w src ei s) := by
  cases src with
  | vec _ => exact vread_noIllegal.bind fun _ => .ok _
  | scalar _ | simm _ | uimm _ => exact .ok _

theorem memRead_noIllegal {addr n : Nat} : NoIllegal (memRead addr n s) := by
  unfold memRead memGet
  cases s.nextAnswer.fault with
  | none => exact .ok _
  | some _ => exact .memFault ..

theorem memWrite_noIllegal {addr n v : Nat} : NoIllegal (memWrite addr n v s) := by
  unfold memWrite
  cases s.nextAnswer.fault with
  | none => exact .ok _
  | some _ => exact .memFault ..

/-! ### The loops -/

theorem elementSteps_noIllegal {act : Nat → State → Run (Bool × State)} {body : Nat → State → Run State} {n ei : Nat}
    (hact : ∀ ei s, NoIllegal (act ei s)) (hbody : ∀ ei s, NoIllegal (body ei s)) :
    NoIllegal (elementSteps act body n ei s) := by
  induction n generalizing ei s with
  | zero => exact .ok _
  | succ n ih =>
    exact (hact ..).bind fun _ => .ite ((hbody ..).bind fun _ => ih) ((NoIllegal.ok _).bind fun _ => ih)

theorem foldSteps_noIllegal {α : Type} {vm : Bool} {body : Nat → α → State → Run (α × State)} {n ei : Nat} {acc : α}
    (hbody : ∀ ei acc s, NoIllegal (body ei acc s)) : NoIllegal (foldSteps vm body n ei acc s) := by
  induction n generalizing ei acc s with
  | zero => exact .ok _
  | succ n ih =>
    exact activeElement_noIllegal.bind fun _ =>
      .ite ((hbody ..).bind fun _ => ih) ((NoIllegal.ok _).bind fun _ => ih)

theorem byteSteps_noIllegal {body : Nat → State → Run State} {n j : Nat} (hbody : ∀ j s, NoIllegal (body j s)) :
    NoIllegal (byteSteps body n j s) := by
  induction n generalizing j s with
  | zero => exact .ok _
  | succ n ih => exact (hbody ..).bind fun _ => ih

/-! ### Element bodies -/

section
variable {ei vd vs2 : Nat} {src : Src}

theorem binaryBody_noIllegal {w2 w1 wd : Nat} {f : ElemFn w2 w1 wd} :
    NoIllegal (binaryBody w2 w1 wd vd vs2 src f ei s) :=
  vread_noIllegal.bind fun _ => operand1_noIllegal.bind fun _ => vwrite_noIllegal

theorem ternaryBody_noIllegal {w1 wd : Nat} {f : BitVec w1 → BitVec w1 → BitVec wd → BitVec wd} :
    NoIllegal (ternaryBody w1 wd vd vs2 src f ei s) :=
  operand1_noIllegal.bind fun _ => vread_noIllegal.bind fun _ => vread_noIllegal.bind fun _ => vwrite_noIllegal

theorem carryBody_noIllegal {w : Nat} {f : BitVec w → BitVec w → Bool → BitVec w} :
    NoIllegal (carryBody w vd vs2 src f ei s) :=
  vread_noIllegal.bind fun _ => operand1_noIllegal.bind fun _ => maskbit_noIllegal.bind fun _ => vwrite_noIllegal

theorem unaryBody_noIllegal {w2 wd : Nat} {f : BitVec w2 → BitVec wd} : NoIllegal (unaryBody w2 wd vd vs2 f ei s) :=
  vread_noIllegal.bind fun _ => vwrite_noIllegal

theorem compareBody_noIllegal {w : Nat} {p : BitVec w → BitVec w → Bool} : NoIllegal (compareBody w vd vs2 src p ei s) :=
  vread_noIllegal.bind fun _ => operand1_noIllegal.bind fun _ => mwrite_noIllegal

theorem compareCarryBody_noIllegal {w : Nat} {p : BitVec w → BitVec w → Bool → Bool} :
    NoIllegal (compareCarryBody w vd vs2 src p ei s) :=
  vread_noIllegal.bind fun _ => operand1_noIllegal.bind fun _ => maskbit_noIllegal.bind fun _ => mwrite_noIllegal

theorem gatherBody_noIllegal {w vlmax : Nat} : NoIllegal (gatherBody w vlmax vd vs2 src ei s) :=
  indexOperand_noIllegal.bind fun _ => .ite vwrite_noIllegal (vread_noIllegal.bind fun _ => vwrite_noIllegal)

theorem slideUpBody_noIllegal {w : Nat} : NoIllegal (slideUpBody w vd vs2 src ei s) :=
  indexOperand_noIllegal.bind fun _ => .ite (vread_noIllegal.bind fun _ => vwrite_noIllegal) (.ok _)

theorem slideDownBody_noIllegal {w vlmax : Nat} : NoIllegal (slideDownBody w vlmax vd vs2 src ei s) :=
  indexOperand_noIllegal.bind fun _ => .ite (vread_noIllegal.bind fun _ => vwrite_noIllegal) vwrite_noIllegal

theorem slide1UpBody_noIllegal {w rs1 : Nat} : NoIllegal (slide1UpBody w vd vs2 rs1 ei s) :=
  .ite vwrite_noIllegal (vread_noIllegal.bind fun _ => vwrite_noIllegal)

theorem slide1DownBody_noIllegal {w vl rs1 : Nat} : NoIllegal (slide1DownBody w vl vd vs2 rs1 ei s) :=
  .ite vwrite_noIllegal (vread_noIllegal.bind fun _ => vwrite_noIllegal)

end

theorem reduceRun_noIllegal {w aw vd vs2 vs1 : Nat} {vm : Bool} {ext : BitVec w → BitVec aw}
    {op : BitVec aw → BitVec aw → BitVec aw} : NoIllegal (reduceRun w aw vm vd vs2 vs1 ext op s) :=
  .ite (.ok _) <| vread_noIllegal.bind fun _ =>
    (foldSteps_noIllegal fun _ _ _ => vread_noIllegal.bind fun _ => .ok _).bind fun _ => vwrite_noIllegal

/-! ### Memory accesses -/

section
variable {w reg ei n fi : Nat} {emul : Int} {addr : FieldAddr}

theorem loadFields_noIllegal : NoIllegal (loadFields w reg ei emul addr n fi s) := by
  induction n generalizing fi s with
  | zero => exact .ok _
  | succ n ih => exact memRead_noIllegal.bind fun _ => vwriteAt_noIllegal.bind fun _ => ih

theorem storeFields_noIllegal : NoIllegal (storeFields w reg ei emul addr n fi s) := by
  induction n generalizing fi s with
  | zero => exact .ok _
  | succ n ih => exact vreadAt_noIllegal.bind fun _ => memWrite_noIllegal.bind fun _ => ih

theorem writeFields_noIllegal {vs : List Nat} : NoIllegal (writeFields w reg ei emul fi vs s) := by
  induction vs generalizing fi s with
  | nil => exact .ok _
  | cons v vs ih => exact vwriteAt_noIllegal.bind fun _ => ih

theorem firstFaultBody_noIllegal {nf rs1 : Nat} : NoIllegal (firstFaultBody w nf reg rs1 emul ei s) := by
  unfold firstFaultBody
  dsimp only
  split
  · exact .ite (.memFault ..) (.finished _)
  · exact writeFields_noIllegal

theorem loadByte_noIllegal {rs1 j : Nat} : NoIllegal (loadByte reg rs1 j s) :=
  memRead_noIllegal.bind fun _ => vwriteAt_noIllegal

theorem storeByte_noIllegal {rs1 j : Nat} : NoIllegal (storeByte reg rs1 j s) :=
  vreadAt_noIllegal.bind fun _ => memWrite_noIllegal

end

end Sys2Proof.Reference
end

section
/-! The shape validator (41_shape R451, R457, R458). -/

namespace Sys2Proof.Claims

open Sys2Proof.Machine Sys2Proof.Reference

/-- A command whose shape check answers `ok`, and whose run behind it raises no illegal-instruction (40_element_engine R400). -/
inductive ValidatedCommand (s : State) (o : Host.Outcome State Fault Refusal) (ok : Bool) : Prop
  | intro {shapes : State → Bool} {body : State → Run State} (runs : o = runCommand shapes body s)
      (checks : shapes s = ok) (raises : NoIllegal (body s.clearHidden))

section
variable {s : State} {o : Host.Outcome State Fault Refusal} {ok : Bool}

/-- A failed check ends the command before it writes anything (41_shape R451). -/
theorem ValidatedCommand.failed (h : ValidatedCommand s o ok) (ht : s.typingOk = true) (hok : ok = false) :
    o = .next (s.takeTrap .illegalInstruction) := by
  obtain ⟨runs, checks, -⟩ := h
  exact runs.trans (runCommand_illegal ht (checks.trans hok))

/-- With every check passed the command does not end in illegal-instruction (41_shape R451). -/
theorem ValidatedCommand.passed (h : ValidatedCommand s o ok) (ht : s.typingOk = true) (hok : ok = true) {t : State}
    (hnext : o = .next t) : t.result ≠ some (.trap .illegalInstruction) := by
  obtain ⟨runs, checks, raises⟩ := h
  rw [runCommand, if_pos ht, if_pos (checks.trans hok)] at runs
  exact raises.result_ne (runs.symm.trans hnext)

/-! ### The classes -/

variable {shapes : State → Bool} {body : Nat → State → Run State} {vm : Bool} {vd vs2 vs1 : Nat} {src : Src}

theorem masked_validated (checks : shapes s = ok) (hbody : ∀ ei t, NoIllegal (body ei t)) :
    ValidatedCommand s (runCommand shapes (elementLoop (activeElement vm) body) s) ok :=
  ⟨rfl, checks, elementSteps_noIllegal (fun _ _ => activeElement_noIllegal) hbody⟩

theorem sameWidth_validated {f : (w : Nat) → ElemFn w w w} : ValidatedCommand s (sameWidth vm vd vs2 src f s)
    ((narrow s vd :: narrow s vs2 :: srcShapes s src).all Shape.ok) :=
  masked_validated (sameWidthShapes_eq ..) fun _ _ => binaryBody_noIllegal

theorem multiplyAdd_validated {f : (w : Nat) → BitVec w → BitVec w → BitVec w → BitVec w} :
    ValidatedCommand s (multiplyAdd vm vd vs2 src f s) ((narrow s vd :: narrow s vs2 :: srcShapes s src).all Shape.ok) :=
  masked_validated (sameWidthShapes_eq ..) fun _ _ => ternaryBody_noIllegal

theorem withCarry_validated {f : (w : Nat) → BitVec w → BitVec w → Bool → BitVec w} :
    ValidatedCommand s (withCarry vd vs2 src f s) ((narrow s vd :: narrow s vs2 :: srcShapes s src).all Shape.ok) :=
  ⟨rfl, sameWidthShapes_eq .., elementSteps_noIllegal (fun _ _ => .ok _) fun _ _ => carryBody_noIllegal⟩

theorem permute_validated (hbody : ∀ ei t, NoIllegal (body ei t)) : ValidatedCommand s (permute vm vd vs2 src body s)
    ((narrow s vd :: narrow s vs2 :: srcShapes s src).all Shape.ok) :=
  masked_validated (sameWidthShapes_eq ..) hbody

theorem widening_validated {f : (w : Nat) → BitVec w → BitVec w → BitVec (2 * w)} :
    ValidatedCommand s (widening vm vd vs2 src f s) ((wide s vd :: narrow s vs2 :: srcShapes s src).all Shape.ok) :=
  masked_validated (wideningShapes_eq ..) fun _ _ => binaryBody_noIllegal

theorem wideningWide_validated {f : (w : Nat) → BitVec (2 * w) → BitVec w → BitVec (2 * w)} :
    ValidatedCommand s (wideningWide vm vd vs2 src f s) ((wide s vd :: wide s vs2 :: srcShapes s src).all Shape.ok) :=
  masked_validated (wideningWideShapes_eq ..) fun _ _ => binaryBody_noIllegal

theorem wideningMultiplyAdd_validated {f : (w : Nat) → BitVec w → BitVec w → BitVec (2 * w) → BitVec (2 * w)} :
    ValidatedCommand s (wideningMultiplyAdd vm vd vs2 src f s)
      ((wide s vd :: narrow s vs2 :: srcShapes s src).all Shape.ok) :=
  masked_validated (wideningShapes_eq ..) fun _ _ => ternaryBody_noIllegal

theorem narrowing_validated {f : (w : Nat) → ElemFn (2 * w) w w} : ValidatedCommand s (narrowing vm vd vs2 src f s)
    ((narrow s vd :: wide s vs2 :: srcShapes s src).all Shape.ok) :=
  masked_validated (narrowingShapes_eq ..) fun _ _ => binaryBody_noIllegal

theorem extension_validated {k : Nat} {f : (w2 w : Nat) → BitVec w2 → BitVec w} :
    ValidatedCommand s (extension vm vd vs2 k f s) ([narrow s vd, fraction s k vs2].all Shape.ok) :=
  masked_validated (extensionShapes_eq ..) fun _ _ => unaryBody_noIllegal

theorem maskLoop_validated {act : Nat → State → Run (Bool × State)} (hact : ∀ ei t, NoIllegal (act ei t))
    (hbody : ∀ ei t, NoIllegal (body ei t)) : ValidatedCommand s (runCommand (maskShapes vs2 src) (maskLoop act vd body) s)
      ((narrow s vs2 :: srcShapes s src).all Shape.ok) :=
  ⟨rfl, maskShapes_eq .., (elementSteps_noIllegal hact hbody).bind fun _ => .ok _⟩

theorem compare_validated {p : (w : Nat) → BitVec w → BitVec w → Bool} :
    ValidatedCommand s (compare vm vd vs2 src p s) ((narrow s vs2 :: srcShapes s src).all Shape.ok) :=
  maskLoop_validated (fun _ _ => activeElement_noIllegal) fun _ _ => compareBody_noIllegal

theorem carryOut_validated {p : (w : Nat) → BitVec w → BitVec w → Bool → Bool} :
    ValidatedCommand s (carryOut vd vs2 src p s) ((narrow s vs2 :: srcShapes s src).all Shape.ok) :=
  maskLoop_validated (fun _ _ => .ok _) fun _ _ => compareBody_noIllegal

theorem carryOutIn_validated {p : (w : Nat) → BitVec w → BitVec w → Bool → Bool} :
    ValidatedCommand s (carryOutIn vd vs2 src p s) ((narrow s vs2 :: srcShapes s src).all Shape.ok) :=
  maskLoop_validated (fun _ _ => .ok _) fun _ _ => compareCarryBody_noIllegal

theorem reduce_validated {op : (w : Nat) → BitVec w → BitVec w → BitVec w} :
    ValidatedCommand s (reduce vm vd vs2 vs1 op s)
      ([narrow s vs2, scalarAt s.sew vd, scalarAt s.sew vs1].all Shape.ok) :=
  ⟨rfl, reductionShapes_eq .., reduceRun_noIllegal⟩

theorem reduceWide_validated {ext : (w w2 : Nat) → BitVec w → BitVec w2} {op : (w : Nat) → BitVec w → BitVec w → BitVec w} :
    ValidatedCommand s (reduceWide vm vd vs2 vs1 ext op s)
      ([narrow s vs2, scalarAt (2 * s.sew) vd, scalarAt (2 * s.sew) vs1].all Shape.ok) :=
  ⟨rfl, reductionShapes_eq .., reduceRun_noIllegal⟩

section
variable {e nf reg rs1 rs2 k : Nat}

theorem unitLoad_validated : ValidatedCommand s (unitLoad e vm nf reg rs1 s) ([memoryAt s e reg nf].all Shape.ok) :=
  masked_validated (memoryOk_eq ..) fun _ _ => loadFields_noIllegal

theorem unitStore_validated : ValidatedCommand s (unitStore e vm nf reg rs1 s) ([memoryAt s e reg nf].all Shape.ok) :=
  masked_validated (memoryOk_eq ..) fun _ _ => storeFields_noIllegal

theorem stridedLoad_validated :
    ValidatedCommand s (stridedLoad e vm nf reg rs1 rs2 s) ([memoryAt s e reg nf].all Shape.ok) :=
  masked_validated (memoryOk_eq ..) fun _ _ => loadFields_noIllegal

theorem stridedStore_validated :
    ValidatedCommand s (stridedStore e vm nf reg rs1 rs2 s) ([memoryAt s e reg nf].all Shape.ok) :=
  masked_validated (memoryOk_eq ..) fun _ _ => storeFields_noIllegal

theorem firstFaultLoad_validated :
    ValidatedCommand s (firstFaultLoad e vm nf reg rs1 s) ([memoryAt s e reg nf].all Shape.ok) :=
  masked_validated (memoryOk_eq ..) fun _ _ => firstFaultBody_noIllegal

theorem indexedLoad_validated : ValidatedCommand s (indexedLoad e vm nf reg rs1 vs2 s)
    ([⟨reg, s.sew, s.lmulLog, nf⟩, memoryAt s e vs2 0].all Shape.ok) :=
  masked_validated (indexedShapes_eq ..) fun _ _ => vread_noIllegal.bind fun _ => loadFields_noIllegal

theorem indexedStore_validated : ValidatedCommand s (indexedStore e vm nf reg rs1 vs2 s)
    ([⟨reg, s.sew, s.lmulLog, nf⟩, memoryAt s e vs2 0].all Shape.ok) :=
  masked_validated (indexedShapes_eq ..) fun _ _ => vread_noIllegal.bind fun _ => storeFields_noIllegal

theorem wholeLoad_validated (hk : k ≤ 3) :
    ValidatedCommand s (wholeLoad (2 ^ k) reg rs1 s) ([whole k reg].all Shape.ok) :=
  ⟨rfl, wholeOk_eq hk reg, byteSteps_noIllegal fun _ _ => loadByte_noIllegal⟩

theorem wholeStore_validated (hk : k ≤ 3) :
    ValidatedCommand s (wholeStore (2 ^ k) reg rs1 s) ([whole k reg].all Shape.ok) :=
  ⟨rfl, wholeOk_eq hk reg, byteSteps_noIllegal fun _ _ => storeByte_noIllegal⟩

/-- A mask load has no operand to check (41_shape R458). -/
theorem maskLoad_validated : ValidatedCommand s (execVlmV reg rs1 s) true :=
  ⟨rfl, rfl, byteSteps_noIllegal fun _ _ => loadByte_noIllegal⟩

theorem maskStore_validated : ValidatedCommand s (execVsmV reg rs1 s) true :=
  ⟨rfl, rfl, byteSteps_noIllegal fun _ _ => storeByte_noIllegal⟩

end

/-- Every instruction is a command that checks the table's operands, and only that check raises illegal-instruction. -/
theorem exec_validated (i : Instr) (s : State) : ValidatedCommand s (exec i s) (legal s i) := by
  cases i <;> unfold exec
  case vadd_vv | vadd_vx | vadd_vi | vsub_vv | vsub_vx | vrsub_vx | vrsub_vi | vminu_vv | vminu_vx | vmin_vv | vmin_vx |
      vmaxu_vv | vmaxu_vx | vmax_vv | vmax_vx | vand_vv | vand_vx | vand_vi | vor_vv | vor_vx | vor_vi | vxor_vv | vxor_vx |
      vxor_vi | vsaddu_vv | vsaddu_vx | vsaddu_vi | vsadd_vv | vsadd_vx | vsadd_vi | vssubu_vv | vssubu_vx | vssub_vv |
      vssub_vx | vsll_vv | vsll_vx | vsll_vi | vsmul_vv | vsmul_vx | vsrl_vv | vsrl_vx | vsrl_vi | vsra_vv | vsra_vx |
      vsra_vi | vssrl_vv | vssrl_vx | vssrl_vi | vssra_vv | vssra_vx | vssra_vi | vaaddu_vv | vaaddu_vx | vaadd_vv |
      vaadd_vx | vasubu_vv | vasubu_vx | vasub_vv | vasub_vx | vdivu_vv | vdivu_vx | vdiv_vv | vdiv_vx | vremu_vv | vremu_vx
      | vrem_vv | vrem_vx | vmulhu_vv | vmulhu_vx | vmul_vv | vmul_vx | vmulhsu_vv | vmulhsu_vx | vmulh_vv | vmulh_vx =>
    exact sameWidth_validated
  case vmadd_vv | vmadd_vx | vnmsub_vv | vnmsub_vx | vmacc_vv | vmacc_vx | vnmsac_vv | vnmsac_vx =>
    exact multiplyAdd_validated
  case vadc_vvm | vadc_vxm | vadc_vim | vsbc_vvm | vsbc_vxm => exact withCarry_validated
  case vrgather_vv | vrgather_vx | vrgather_vi => exact permute_validated fun _ _ => gatherBody_noIllegal
  case vslideup_vx | vslideup_vi => exact permute_validated fun _ _ => slideUpBody_noIllegal
  case vslidedown_vx | vslidedown_vi => exact permute_validated fun _ _ => slideDownBody_noIllegal
  case vslide1up_vx => exact permute_validated fun _ _ => slide1UpBody_noIllegal
  case vslide1down_vx => exact permute_validated fun _ _ => slide1DownBody_noIllegal
  case vwaddu_vv | vwaddu_vx | vwadd_vv | vwadd_vx | vwsubu_vv | vwsubu_vx | vwsub_vv | vwsub_vx | vwmulu_vv | vwmulu_vx |
      vwmulsu_vv | vwmulsu_vx | vwmul_vv | vwmul_vx =>
    exact widening_validated
  case vwmaccu_vv | vwmaccu_vx | vwmacc_vv | vwmacc_vx | vwmaccus_vx | vwmaccsu_vv | vwmaccsu_vx =>
    exact wideningMultiplyAdd_validated
  case vwaddu_wv | vwaddu_wx | vwadd_wv | vwadd_wx | vwsubu_wv | vwsubu_wx | vwsub_wv | vwsub_wx =>
    exact wideningWide_validated
  case vnsrl_wv | vnsrl_wx | vnsrl_wi | vnsra_wv | vnsra_wx | vnsra_wi | vnclipu_wv | vnclipu_wx | vnclipu_wi | vnclip_wv |
      vnclip_wx | vnclip_wi =>
    exact narrowing_validated
  case vzext_vf8 | vsext_vf8 | vzext_vf4 | vsext_vf4 | vzext_vf2 | vsext_vf2 => exact extension_validated
  case vmseq_vv | vmseq_vx | vmseq_vi | vmsne_vv | vmsne_vx | vmsne_vi | vmsltu_vv | vmsltu_vx | vmslt_vv | vmslt_vx |
      vmsleu_vv | vmsleu_vx | vmsleu_vi | vmsle_vv | vmsle_vx | vmsle_vi | vmsgtu_vx | vmsgtu_vi | vmsgt_vx | vmsgt_vi =>
    exact compare_validated
  case vmadc_vv | vmadc_vx | vmadc_vi | vmsbc_vv | vmsbc_vx => exact carryOut_validated
  case vmadc_vvm | vmadc_vxm | vmadc_vim | vmsbc_vvm | vmsbc_vxm => exact carryOutIn_validated
  case vredsum_vs | vredand_vs | vredor_vs | vredxor_vs | vredminu_vs | vredmin_vs | vredmaxu_vs | vredmax_vs =>
    exact reduce_validated
  case vwredsumu_vs | vwredsum_vs => exact reduceWide_validated
  case vle8_v | vle16_v | vle32_v | vle64_v => exact unitLoad_validated
  case vse8_v | vse16_v | vse32_v | vse64_v => exact unitStore_validated
  case vlse8_v | vlse16_v | vlse32_v | vlse64_v => exact stridedLoad_validated
  case vsse8_v | vsse16_v | vsse32_v | vsse64_v => exact stridedStore_validated
  case vle8ff_v | vle16ff_v | vle32ff_v | vle64ff_v => exact firstFaultLoad_validated
  case vluxei8_v | vloxei8_v | vluxei16_v | vloxei16_v | vluxei32_v | vloxei32_v | vluxei64_v | vloxei64_v =>
    exact indexedLoad_validated
  case vsuxei8_v | vsoxei8_v | vsuxei16_v | vsoxei16_v | vsuxei32_v | vsoxei32_v | vsuxei64_v | vsoxei64_v =>
    exact indexedStore_validated
  case vl1re8_v | vl1re16_v | vl1re32_v | vl1re64_v => exact wholeLoad_validated (k := 0) (by omega)
  case vl2re8_v | vl2re16_v | vl2re32_v | vl2re64_v => exact wholeLoad_validated (k := 1) (by omega)
  case vl4re8_v | vl4re16_v | vl4re32_v | vl4re64_v => exact wholeLoad_validated (k := 2) (by omega)
  case vl8re8_v | vl8re16_v | vl8re32_v | vl8re64_v => exact wholeLoad_validated (k := 3) (by omega)
  case vs1r_v => exact wholeStore_validated (k := 0) (by omega)
  case vs2r_v => exact wholeStore_validated (k := 1) (by omega)
  case vs4r_v => exact wholeStore_validated (k := 2) (by omega)
  case vs8r_v => exact wholeStore_validated (k := 3) (by omega)
  case vlm_v => exact maskLoad_validated
  case vsm_v => exact maskStore_validated

end

end Sys2Proof.Claims

namespace Sys2Proof.Machine

open Sys2Proof.Reference Sys2Proof.Claims

/-- Settles O22: the shape check runs before the command's body, and the body raises no illegal-instruction of its own. -/
theorem illegalShapes : Obligations.IllegalShapes :=
  ⟨fun i s ht hl => (exec_validated i s).failed ht hl,
    fun i s _ hr hnext => by
      obtain ⟨-, -, ht, hl⟩ := hr
      exact (exec_validated i s).passed ht hl hnext⟩

end Sys2Proof.Machine
end

section
/-! SUPPORT. The frame of a masked access: its elements change the bytes of its fields only (42_memory_access R502, R504, R505). -/

namespace Sys2Proof.Reference

open Sys2Proof.Machine Sys2Proof.Claims

variable {s : State} {a : Access} {fs : List (Nat × Nat)} {v : View}

theorem mem_fieldsOf {on : Nat → Bool} {ei fi : Nat} :
    (ei, fi) ∈ fieldsOf s a on ↔ ei ∈ elements s ∧ on ei = true ∧ fi ≤ a.nf := by
  simp [fieldsOf, and_assoc]

theorem elemBytes_subset_loadedBytes (hc : a.call ≠ .write) {ei fi : Nat} (hf : (ei, fi) ∈ fs) :
    elemBytes s.cfg a.w (a.fieldReg fi) ei ⊆ loadedBytes s a fs := fun b hb => by
  rw [loadedBytes, if_neg hc]
  exact List.mem_flatMap.mpr ⟨(ei, fi), hf, hb⟩

theorem memBytes_subset_storedBytes (hc : a.call = .write) {ei fi : Nat} (hf : (ei, fi) ∈ fs) :
    memBytes s (a.addr s.vrf ei fi) (a.w / 8) ⊆ storedBytes s a fs := fun b hb => by
  rw [storedBytes, if_pos hc]
  exact List.mem_flatMap.mpr ⟨(ei, fi), hf, hb⟩

/-- The changes of `v` are confined to the fields `fs` of an access. -/
abbrev StaysInFields (s : State) (a : Access) (fs : List (Nat × Nat)) (v : View) : Prop :=
  StaysConfined s (loadedBytes s a fs) (storedBytes s a fs) v

/-- A store leaves the register file as it is, so that its mask and its addresses are those the command found. -/
theorem StaysInFields.vrf_of_store (h : StaysInFields s a fs v) (hs : s.Invariant) (hc : a.call = .write) : v.vrf = s.vrf := by
  obtain ⟨-, hkeep, -⟩ := h.confined
  have hwf : Memory.wf s.vrf = true := (StaysConfined.start (regs := []) (stored := []) hs).vrf
  have hnone : loadedBytes s a fs = [] := if_pos hc
  exact Memory.eq_of_read h.vrf hwf fun b => (hkeep b (hnone ▸ List.not_mem_nil)).1

/-- The first `n` fields of an element (42_memory_access R504). -/
theorem StaysInFields.fields (h : StaysInFields s a fs v) (hs : s.Invariant) {n ei : Nat} (hfs : ∀ fi < n, (ei, fi) ∈ fs) :
    StaysInFields s a fs (fields s a n ei v) :=
  StaysConfined.fields h (fun hc fi hfi => elemBytes_subset_loadedBytes hc (hfs fi hfi))
    fun hc fi hfi => h.vrf_of_store hs hc ▸ memBytes_subset_storedBytes hc (hfs fi hfi)

/-- The elements of a list, where those that a store finds inactive need not be among the fields (40_element_engine R411). -/
theorem transfers_stayInFields (hs : s.Invariant) {l : List Nat}
    (hfs : ∀ ei ∈ l, (a.call = .write → active s a.vm (view s) ei = true) → ∀ fi ≤ a.nf, (ei, fi) ∈ fs) :
    StaysInFields s a fs (runOver (active s a.vm) (transfer s a) l (view s)) := by
  refine runOver_induction (P := StaysInFields s a fs) (fun ei hei v h hact => ?_) (.start hs)
  have hfound : a.call = .write → active s a.vm (view s) ei = true := fun hc => by
    rw [active, h.vrf_of_store hs hc] at hact
    exact hact
  exact h.fields hs fun fi hfi => hfs ei hei hfound fi (by omega)

/-- The whole of a masked access. -/
theorem loop_confined (hs : s.Invariant) :
    StaysInFields s a (fieldsOf s a fun ei => a.call != .write || active s a.vm (view s) ei)
      (loop s (active s a.vm) (transfer s a)) := by
  refine transfers_stayInFields hs fun ei hei hact fi hfi => mem_fieldsOf.mpr ⟨hei, ?_, hfi⟩
  by_cases hc : a.call = .write
  · simp [hact hc]
  · simp [hc]

/-- The elements below one of the command's elements. -/
theorem upTo_confined (hs : s.Invariant) {ei : Nat} (hei : ei ∈ elements s)
    (hfs : ∀ p ∈ fieldsOf s a fun e => e < ei, p ∈ fs) : StaysInFields s a fs (upTo s a ei) := by
  obtain ⟨-, hlt⟩ := List.mem_range'_1.mp hei
  refine transfers_stayInFields hs fun e he _ fi hfi => hfs _ ?_
  obtain ⟨hge, hbelow⟩ := List.mem_range'_1.mp he
  exact mem_fieldsOf.mpr ⟨List.mem_range'_1.mpr ⟨hge, by omega⟩, decide_eq_true (by omega), hfi⟩

/-- What is left at a fault of field `fi` of element `ei` (42_memory_access R505). -/
theorem faulted_confined (hs : s.Invariant) {ei fi : Nat} (hei : ei ∈ elements s) (kind : FaultKind) :
    StaysInFields s a (fieldsOf s a (fun e => e < ei) ++ (List.range fi).map fun f => (ei, f)) (faulted s a ei fi kind) := by
  have hbelow := upTo_confined (a := a) hs hei fun p hp => List.mem_append_left ((List.range fi).map fun f => (ei, f)) hp
  refine StaysConfined.trace (hbelow.fields hs fun f hf => ?_) _
  exact List.mem_append_right _ (List.mem_map.mpr ⟨f, List.mem_range.mpr hf, rfl⟩)

end Sys2Proof.Reference
end

section
/-! SUPPORT. The masked accesses as commands, row by row (42_memory_access R502, R505, R510 to R517, R520). -/

namespace Sys2Proof.Claims

open Sys2Proof.Machine Sys2Proof.Reference

/-- A command that completes with the fold of an access while no call faults; one that does not probe traps at its first call
that faults (42_memory_access R505). -/
structure AccessCommand (s : State) (a : Access) (o : Host.Outcome State Fault Refusal) : Prop where
  completes : quiet s → Completes s o (loop s (active s a.vm) (transfer s a))
  traps : a.call ≠ .probe → ∀ {ei fi : Nat} {kind : FaultKind}, s.vstart ≤ ei → ei < s.vl → fi ≤ a.nf →
    active s a.vm (upTo s a ei) ei = true → firstFault s (calls s (before s a ei fi)) kind →
    Traps s o ei (a.call == .write) ⟨kind, s.addr (a.addr (upTo s a ei).vrf ei fi)⟩ (faulted s a ei fi kind)

section
variable {s : State} {i : Instr} {a : Access} {e nf reg rs1 rs2 vs2 : Nat} {vm : Bool}

theorem unitLoad_command (ht : s.typingOk = true) (hs : [memoryAt s e reg nf].all Shape.ok = true) :
    AccessCommand s (unitAccess s .read e vm nf reg rs1) (unitLoad e vm nf reg rs1 s) := by
  rw [← memoryOk_eq] at hs
  exact ⟨fun hq => unitLoad_completes hq ht hs, fun _ => unitLoad_traps ht hs⟩

theorem unitStore_command (ht : s.typingOk = true) (hs : [memoryAt s e reg nf].all Shape.ok = true) :
    AccessCommand s (unitAccess s .write e vm nf reg rs1) (unitStore e vm nf reg rs1 s) := by
  rw [← memoryOk_eq] at hs
  exact ⟨fun hq => unitStore_completes hq ht hs, fun _ => unitStore_traps ht hs⟩

theorem firstFaultLoad_command (ht : s.typingOk = true) (hs : [memoryAt s e reg nf].all Shape.ok = true) :
    AccessCommand s (unitAccess s .probe e vm nf reg rs1) (firstFaultLoad e vm nf reg rs1 s) := by
  rw [← memoryOk_eq] at hs
  exact ⟨fun hq => firstFaultLoad_completes hq ht hs, fun hc => absurd rfl hc⟩

theorem stridedLoad_command (ht : s.typingOk = true) (hs : [memoryAt s e reg nf].all Shape.ok = true) :
    AccessCommand s (stridedAccess s .read e vm nf reg rs1 rs2) (stridedLoad e vm nf reg rs1 rs2 s) := by
  rw [← memoryOk_eq] at hs
  exact ⟨fun hq => stridedLoad_completes hq ht hs, fun _ => stridedLoad_traps ht hs⟩

theorem stridedStore_command (ht : s.typingOk = true) (hs : [memoryAt s e reg nf].all Shape.ok = true) :
    AccessCommand s (stridedAccess s .write e vm nf reg rs1 rs2) (stridedStore e vm nf reg rs1 rs2 s) := by
  rw [← memoryOk_eq] at hs
  exact ⟨fun hq => stridedStore_completes hq ht hs, fun _ => stridedStore_traps ht hs⟩

theorem indexedLoad_command (ht : s.typingOk = true)
    (hs : [⟨reg, s.sew, s.lmulLog, nf⟩, memoryAt s e vs2 0].all Shape.ok = true) :
    AccessCommand s (indexedAccess s .read e vm nf reg rs1 vs2) (indexedLoad e vm nf reg rs1 vs2 s) := by
  rw [← indexedShapes_eq] at hs
  exact ⟨fun hq => indexedLoad_completes hq ht hs, fun _ => indexedLoad_traps ht hs⟩

theorem indexedStore_command (ht : s.typingOk = true)
    (hs : [⟨reg, s.sew, s.lmulLog, nf⟩, memoryAt s e vs2 0].all Shape.ok = true) :
    AccessCommand s (indexedAccess s .write e vm nf reg rs1 vs2) (indexedStore e vm nf reg rs1 vs2 s) := by
  rw [← indexedShapes_eq] at hs
  exact ⟨fun hq => indexedStore_completes hq ht hs, fun _ => indexedStore_traps ht hs⟩

/-! ### Table by table -/

theorem exec_unitRows (hrow : unitRows s i = some a) (hr : Ready s i) : AccessCommand s a (exec i s) := by
  obtain ⟨-, -, ht, hl⟩ := hr
  unfold unitRows at hrow
  split at hrow <;> cases hrow
  case h_1 | h_4 | h_7 | h_10 => exact unitLoad_command ht hl
  case h_2 | h_5 | h_8 | h_11 => exact firstFaultLoad_command ht hl
  case h_3 | h_6 | h_9 | h_12 => exact unitStore_command ht hl

theorem exec_stridedRows (hrow : stridedRows s i = some a) (hr : Ready s i) : AccessCommand s a (exec i s) := by
  obtain ⟨-, -, ht, hl⟩ := hr
  unfold stridedRows at hrow
  split at hrow <;> cases hrow
  case h_1 | h_3 | h_5 | h_7 => exact stridedLoad_command ht hl
  case h_2 | h_4 | h_6 | h_8 => exact stridedStore_command ht hl

theorem exec_indexedRows (hrow : indexedRows s i = some a) (hr : Ready s i) : AccessCommand s a (exec i s) := by
  obtain ⟨-, -, ht, hl⟩ := hr
  unfold indexedRows at hrow
  split at hrow <;> cases hrow
  case h_1 | h_2 | h_5 | h_6 | h_9 | h_10 | h_13 | h_14 => exact indexedLoad_command ht hl
  case h_3 | h_4 | h_7 | h_8 | h_11 | h_12 | h_15 | h_16 => exact indexedStore_command ht hl

theorem exec_accessRows (hrow : accessRows s i = some a) (hr : Ready s i) : AccessCommand s a (exec i s) := by
  simp only [accessRows, Option.orElse_eq_orElse, Option.orElse_eq_or, Option.or_eq_some_iff] at hrow
  rcases hrow with h | ⟨-, h | ⟨-, h⟩⟩
  · exact exec_unitRows h hr
  · exact exec_stridedRows h hr
  · exact exec_indexedRows h hr

/-- The rows that probe are the fault-only-first loads (42_memory_access R520). -/
inductive FirstFaultCommand (s : State) (o : Host.Outcome State Fault Refusal) : Access → Prop
  | intro {e nf reg rs1 : Nat} {vm : Bool} (runs : o = firstFaultLoad e vm nf reg rs1 s)
      (checks : s.memoryOk e reg nf = true) : FirstFaultCommand s o (unitAccess s .probe e vm nf reg rs1)

theorem exec_firstFaultCommand (hrow : unitRows s i = some a) (hc : a.call = .probe) (hr : Ready s i) :
    FirstFaultCommand s (exec i s) a := by
  obtain ⟨-, -, -, hl⟩ := hr
  unfold unitRows at hrow
  split at hrow <;> cases hrow
  case h_2 | h_5 | h_8 | h_11 => exact .intro rfl ((memoryOk_eq ..).trans hl)
  all_goals cases hc

end

/-- A table of masked accesses whose rows are access commands has the results of its fold, confined to its fields. -/
theorem accessResults_of_commands {rows : State → Instr → Option Access}
    (h : ∀ {s i a}, rows s i = some a → Ready s i → AccessCommand s a (exec i s)) : AccessResults rows := by
  intro s i a hrow hr hq
  obtain ⟨hinv, -, -, -⟩ := id hr
  exact ⟨(h hrow hr).completes hq, (loop_confined (State.inv_iff.mp hinv)).confined⟩

end Sys2Proof.Claims
end

section
/-! The masked memory accesses: their results, and their faults (42_memory_access R505, R510 to R517, R520, R521). -/

namespace Sys2Proof.Machine

open Sys2Proof.Reference Sys2Proof.Claims

/-- Settles O49, row by row (`exec_unitRows`). -/
theorem unitStrideResults : Obligations.UnitStrideResults := accessResults_of_commands exec_unitRows

/-- Settles O50, row by row (`exec_stridedRows`). -/
theorem stridedResults : Obligations.StridedResults := accessResults_of_commands exec_stridedRows

/-- Settles O51, row by row (`exec_indexedRows`). -/
theorem indexedResults : Obligations.IndexedResults := accessResults_of_commands exec_indexedRows

/-- Settles O53: the element loop stops at its first faulting call, with the elements below it and its earlier fields moved. -/
theorem memFaultState : Obligations.MemFaultState := by
  intro s i a ei fi kind hrow hc hr hei hfi hact hfault
  obtain ⟨hinv, -, -, -⟩ := id hr
  obtain ⟨hge, hlt⟩ := List.mem_range'_1.mp hei
  exact ⟨(exec_accessRows hrow hr).traps hc hge (by omega) hfi hact hfault,
    (faulted_confined (State.inv_iff.mp hinv) hei kind).confined⟩

/-- Settles O55: a fault-only-first load probes an element before it writes any of its fields, so that the first fault leaves
the elements below it; above element 0 the command then completes with `vl` cut. -/
theorem firstFaultMachine : Obligations.FirstFaultMachine := by
  intro s i a hrow hc hr
  obtain ⟨hinv, -, ht, -⟩ := id hr
  have hcompletes := (exec_unitRows hrow hr).completes
  obtain ⟨runs, checks⟩ := exec_firstFaultCommand hrow hc hr
  refine ⟨fun fi kind hfi h0 hact hfault => ?_, fun ei fi kind hpos hei hfi hact hfault => ⟨?_, ?_⟩, hcompletes⟩
  · obtain ⟨hge, hlt⟩ := List.mem_range'_1.mp h0
    rw [runs]
    exact firstFaultLoad_traps ht checks (by omega) (by omega) hfi hact hfault
  · obtain ⟨hge, hlt⟩ := List.mem_range'_1.mp hei
    rw [runs]
    exact firstFaultLoad_truncates ht checks hge (by omega) hpos hfi hact hfault
  · exact (upTo_confined (State.inv_iff.mp hinv) hei fun _ hp => hp).confined

end Sys2Proof.Machine
end

section
/-! SUPPORT. The element functions of the multiply-adds and of the carry forms are those of the tables (43_alu R624 to R629). -/

namespace Sys2Proof.Machine

variable {w : Nat} (b a acc : BitVec w) (c : Bool)

theorem maccElem_eq : maccElem w a b acc = a * b + acc := by simp [maccElem]
theorem nmsacElem_eq : nmsacElem w a b acc = acc - a * b := by simp [nmsacElem]
theorem maddElem_eq : maddElem w a b acc = a * acc + b := by simp [maddElem]
theorem nmsubElem_eq : nmsubElem w a b acc = b - a * acc := by simp [nmsubElem]
theorem adcElem_eq : adcElem w b a c = b + a + BitVec.ofNat w c.toNat := by simp [adcElem, ← trunc_natCast w c.toNat]
theorem sbcElem_eq : sbcElem w b a c = b - a - BitVec.ofNat w c.toNat := by simp [sbcElem, ← trunc_natCast w c.toNat]

end Sys2Proof.Machine
end

section
/-! SUPPORT. The frame of an element loop that writes its destination's elements only: the rest of the register file, memory and
the record of calls stay (20_memory R201, 40_element_engine R401, R411). -/

namespace Sys2Proof.Reference

open Sys2Proof.Machine Sys2Proof.Claims

/-- The changes of `v` are confined to the register bytes `regs`, with `vxsat` left open: a saturating element sets it
(45_fixed_point R804). -/
structure InRegisters (s : State) (regs : List Nat) (v : View) : Prop where
  confined : StaysConfined s regs [] { v with sat := s.vxsat }
  mem : v.mem = s.mem
  trace : v.trace = s.trace

variable {s : State} {o : Host.Outcome State Fault Refusal} {regs : List Nat} {v : View} {w vd ei : Nat}

theorem InRegisters.start (h : s.Invariant) : InRegisters s regs (view s) := ⟨.start h, rfl, rfl⟩

theorem InRegisters.put (h : InRegisters s regs v) (x : BitVec w) (sat : Bool) (hregs : elemBytes s.cfg w vd ei ⊆ regs) :
    InRegisters s regs { v.put s.cfg w vd ei x with sat := sat } := ⟨h.confined.put x hregs, h.mem, h.trace⟩

/-- A command that completes with changes confined to `regs` is done with that frame. -/
theorem InRegisters.done (h : InRegisters s regs v) (hc : Completes s o v) : Done s o v regs :=
  have ⟨_, hkeep, _⟩ := h.confined.confined
  ⟨hc, h.mem, h.trace, hkeep⟩

theorem elemBytes_subset_destination (h : ei ∈ elements s) : elemBytes s.cfg w vd ei ⊆ destination s w vd := fun _ ha =>
  List.mem_flatMap.mpr ⟨ei, h, ha⟩

variable {act : View → Nat → Bool} {body : Nat → View → View}

/-- A loop whose bodies each write their own element of `vd` stays in the destination (40_element_engine R411). -/
theorem loop_inDestination (hs : s.Invariant)
    (hbody : ∀ ei v, ∃ (x : BitVec w) (sat : Bool), body ei v = { v.put s.cfg w vd ei x with sat := sat }) :
    InRegisters s (destination s w vd) (loop s act body) := by
  refine runOver_induction (P := InRegisters s _) (fun ei hei v h _ => ?_) (.start hs)
  obtain ⟨x, sat, hput⟩ := hbody ei v
  exact hput ▸ h.put x sat (elemBytes_subset_destination hei)

/-- A loop whose bodies leave `vxsat` alone leaves it alone (10_state R111). -/
theorem loop_sat (hbody : ∀ ei v, (body ei v).sat = v.sat) : (loop s act body).sat = s.vxsat :=
  runOver_induction (P := fun v => v.sat = s.vxsat) (fun ei _ v h _ => (hbody ei v).trans h) rfl

end Sys2Proof.Reference

namespace Sys2Proof.Claims

open Sys2Proof.Machine Sys2Proof.Reference

variable {s : State}

theorem Binary.run_inDestination (hs : s.Invariant) (r : Binary) : InRegisters s (destination s r.wd r.vd) (r.run s) :=
  loop_inDestination hs fun _ _ => ⟨_, _, rfl⟩

theorem Ternary.run_inDestination (hs : s.Invariant) (r : Ternary) : InRegisters s (destination s r.wd r.vd) (r.run s) :=
  loop_inDestination hs fun _ v => ⟨_, v.sat, rfl⟩

theorem Carry.run_inDestination (hs : s.Invariant) (r : Carry) : InRegisters s (destination s r.w r.vd) (r.run s) :=
  loop_inDestination hs fun _ v => ⟨_, v.sat, rfl⟩

/-- The element function never sets `vxsat`. -/
def Binary.NeverClamps (r : Binary) : Prop := ∀ b a, (r.f b a).2 = false

theorem Binary.run_sat {r : Binary} (h : r.NeverClamps) : (r.run s).sat = s.vxsat :=
  loop_sat fun _ v => (congrArg (v.sat || ·) (h _ _)).trans (Bool.or_false _)

theorem Ternary.run_sat (r : Ternary) : (r.run s).sat = s.vxsat := loop_sat fun _ _ => rfl

theorem Carry.run_sat (r : Carry) : (r.run s).sat = s.vxsat := loop_sat fun _ _ => rfl

/-- A table of two-operand commands that never set `vxsat` has the results of its fold, confined to its destination. -/
theorem binaryResults_of_commands {rows : State → Instr → Option Binary}
    (hexec : ∀ {s i r}, rows s i = some r → Ready s i → BinaryCommand s r (exec i s))
    (hclamp : ∀ {s i r}, rows s i = some r → r.NeverClamps) : BinaryResults rows := by
  intro s i r hrow hr
  obtain ⟨hinv, -, -, -⟩ := id hr
  exact ⟨(r.run_inDestination (State.inv_iff.mp hinv)).done (hexec hrow hr).completes, Binary.run_sat (hclamp hrow)⟩

end Sys2Proof.Claims
end

section
/-! SUPPORT. The same-width instructions row by row (43_alu): the tables whose rows never set `vxsat`, the multiply-adds and the
carry forms. -/

namespace Sys2Proof.Claims

open Sys2Proof.Machine Sys2Proof.Reference

variable {s : State} {i : Instr} {vm : Bool} {vd vs2 : Nat} {src : Src}

theorem same_neverClamps {f : BitVec s.sew → BitVec s.sew → BitVec s.sew} {r : Binary} (h : same s vm vd vs2 src f = some r) :
    r.NeverClamps := by
  cases h
  exact fun _ _ => rfl

theorem addRows_neverClamps {r : Binary} (hrow : addRows s i = some r) : r.NeverClamps := by
  unfold addRows at hrow
  split at hrow
  case h_18 => cases hrow
  all_goals exact same_neverClamps hrow

theorem logicRows_neverClamps {r : Binary} (hrow : logicRows s i = some r) : r.NeverClamps := by
  unfold logicRows at hrow
  split at hrow
  case h_19 => cases hrow
  all_goals exact same_neverClamps hrow

theorem multiplyAdd_run {f : (w : Nat) → BitVec w → BitVec w → BitVec w → BitVec w}
    {g : BitVec s.sew → BitVec s.sew → BitVec s.sew → BitVec s.sew} (ht : s.typingOk = true)
    (hs : (narrow s vd :: narrow s vs2 :: srcShapes s src).all Shape.ok = true)
    (hf : ∀ b a acc, f s.sew a b acc = g a b acc) :
    Completes s (multiplyAdd vm vd vs2 src f s) (Ternary.run s ⟨vm, vd, vs2, src, s.sew, s.sew, g⟩) := by
  obtain rfl : f s.sew = g := funext₃ fun a b acc => hf b a acc
  rw [← sameWidthShapes_eq] at hs
  exact multiplyAdd_completes f ht hs

theorem exec_multiplyAddRows {r : Ternary} (hrow : multiplyAddRows s i = some r) (hr : Ready s i) :
    Completes s (exec i s) (r.run s) := by
  obtain ⟨-, -, ht, hl⟩ := hr
  unfold multiplyAddRows at hrow
  split at hrow <;> cases hrow
  case h_1 | h_2 => exact multiplyAdd_run ht hl maddElem_eq
  case h_3 | h_4 => exact multiplyAdd_run ht hl nmsubElem_eq
  case h_5 | h_6 => exact multiplyAdd_run ht hl maccElem_eq
  case h_7 | h_8 => exact multiplyAdd_run ht hl nmsacElem_eq

theorem withCarry_run {f : (w : Nat) → BitVec w → BitVec w → Bool → BitVec w}
    {g : BitVec s.sew → BitVec s.sew → Bool → BitVec s.sew} (ht : s.typingOk = true)
    (hs : (narrow s vd :: narrow s vs2 :: srcShapes s src).all Shape.ok = true) (hf : ∀ b a c, f s.sew b a c = g b a c) :
    Completes s (withCarry vd vs2 src f s) (Carry.run s ⟨vd, vs2, src, s.sew, g⟩) := by
  obtain rfl : f s.sew = g := funext₃ hf
  rw [← sameWidthShapes_eq] at hs
  exact withCarry_completes f ht hs

theorem exec_carryRows {r : Carry} (hrow : carryRows s i = some r) (hr : Ready s i) : Completes s (exec i s) (r.run s) := by
  obtain ⟨-, -, ht, hl⟩ := hr
  unfold carryRows at hrow
  split at hrow <;> cases hrow
  case h_1 | h_2 | h_3 => exact withCarry_run ht hl adcElem_eq
  case h_4 | h_5 => exact withCarry_run ht hl sbcElem_eq

end Sys2Proof.Claims
end

section
/-! The same-width operations (43_alu_same_width): results and frames. -/

namespace Sys2Proof.Machine

open Sys2Proof.Reference Sys2Proof.Claims

/-- Settles O32, row by row (`exec_addRows`). -/
theorem addResults : Obligations.AddResults := binaryResults_of_commands exec_addRows addRows_neverClamps

/-- Settles O33, row by row (`exec_logicRows`). -/
theorem logicResults : Obligations.LogicResults := binaryResults_of_commands exec_logicRows logicRows_neverClamps

/-- Settles O34, row by row (`exec_multiplyAddRows`); each body writes its own element of `vd` (`Ternary.run_inDestination`). -/
theorem multiplyAddResults : Obligations.MultiplyAddResults := by
  intro s i r hrow hr
  obtain ⟨hinv, -, -, -⟩ := id hr
  exact ⟨(r.run_inDestination (State.inv_iff.mp hinv)).done (exec_multiplyAddRows hrow hr), r.run_sat⟩

/-- Settles O35, row by row (`exec_carryRows`); each body writes its own element of `vd` (`Carry.run_inDestination`). -/
theorem carryResults : Obligations.CarryResults := by
  intro s i r hrow hr
  obtain ⟨hinv, -, -, -⟩ := id hr
  exact ⟨(r.run_inDestination (State.inv_iff.mp hinv)).done (exec_carryRows hrow hr), r.run_sat⟩

end Sys2Proof.Machine
end

section
/-! SUPPORT. The element functions of the widening multiply-adds and of the extensions are those of the tables (44 R721 to R724,
R740 to R745). -/

namespace Sys2Proof.Machine

open Sys2Proof.Claims

section
variable {w : Nat} (a b : BitVec w) (acc : BitVec (2 * w))

theorem wmaccuElem_eq : wmaccuElem w a b acc = zext a * zext b + acc := by simp [wmaccuElem, zext]
theorem wmaccElem_eq : wmaccElem w a b acc = sext a * sext b + acc := by simp [wmaccElem, sext]
theorem wmaccsuElem_eq : wmaccsuElem w a b acc = sext a * zext b + acc := by simp [wmaccsuElem, sext, zext]
theorem wmaccusElem_eq : wmaccusElem w a b acc = zext a * sext b + acc := by simp [wmaccusElem, sext, zext]

end

theorem zextElem_eq {w2 w : Nat} (b : BitVec w2) : zextElem w2 w b = zext b := rfl
theorem sextElem_eq {w2 w : Nat} (b : BitVec w2) : sextElem w2 w b = sext b := rfl

end Sys2Proof.Machine
end

section
/-! SUPPORT. The widening, narrowing and extension instructions row by row (44_widening_narrowing): the two-operand tables never
set `vxsat`, and the multiply-adds and extensions complete with the folds of theirs. -/

namespace Sys2Proof.Claims

open Sys2Proof.Machine Sys2Proof.Reference

variable {s : State} {i : Instr} {vm : Bool} {vd vs2 : Nat} {src : Src}

/-! ### Two operands -/

theorem widened_neverClamps {f : BitVec s.sew → BitVec s.sew → BitVec (2 * s.sew)} {r : Binary}
    (h : widened s vm vd vs2 src f = some r) : r.NeverClamps := by
  cases h
  exact fun _ _ => rfl

theorem wideFirst_neverClamps {f : BitVec (2 * s.sew) → BitVec s.sew → BitVec (2 * s.sew)} {r : Binary}
    (h : wideFirst s vm vd vs2 src f = some r) : r.NeverClamps := by
  cases h
  exact fun _ _ => rfl

theorem narrowed_neverClamps {f : BitVec (2 * s.sew) → BitVec s.sew → BitVec s.sew} {r : Binary}
    (h : narrowed s vm vd vs2 src (fun b a => (f b a, false)) = some r) : r.NeverClamps := by
  cases h
  exact fun _ _ => rfl

theorem wideningRows_neverClamps {r : Binary} (hrow : wideningRows s i = some r) : r.NeverClamps := by
  unfold wideningRows at hrow
  split at hrow
  case h_23 => cases hrow
  case h_9 | h_10 | h_11 | h_12 | h_13 | h_14 | h_15 | h_16 => exact wideFirst_neverClamps hrow
  all_goals exact widened_neverClamps hrow

theorem narrowingRows_neverClamps {r : Binary} (hrow : narrowingRows s i = some r) : r.NeverClamps := by
  unfold narrowingRows at hrow
  split at hrow
  case h_7 => cases hrow
  all_goals exact narrowed_neverClamps hrow

/-! ### Multiply-adds -/

theorem wideningMultiplyAdd_run {f : (w : Nat) → BitVec w → BitVec w → BitVec (2 * w) → BitVec (2 * w)}
    {g : BitVec s.sew → BitVec s.sew → BitVec (2 * s.sew) → BitVec (2 * s.sew)} (ht : s.typingOk = true)
    (hs : (wide s vd :: narrow s vs2 :: srcShapes s src).all Shape.ok = true)
    (hf : ∀ a b acc, f s.sew a b acc = g a b acc) :
    Completes s (wideningMultiplyAdd vm vd vs2 src f s) (Ternary.run s ⟨vm, vd, vs2, src, s.sew, 2 * s.sew, g⟩) := by
  obtain rfl : f s.sew = g := funext₃ hf
  rw [← wideningShapes_eq] at hs
  exact wideningMultiplyAdd_completes f ht hs

theorem exec_wideningMultiplyAddRows {r : Ternary} (hrow : wideningMultiplyAddRows s i = some r) (hr : Ready s i) :
    Completes s (exec i s) (r.run s) := by
  obtain ⟨-, -, ht, hl⟩ := hr
  unfold wideningMultiplyAddRows at hrow
  split at hrow <;> cases hrow
  case h_1 | h_2 => exact wideningMultiplyAdd_run ht hl wmaccuElem_eq
  case h_3 | h_4 => exact wideningMultiplyAdd_run ht hl wmaccElem_eq
  case h_5 => exact wideningMultiplyAdd_run ht hl wmaccusElem_eq
  case h_6 | h_7 => exact wideningMultiplyAdd_run ht hl wmaccsuElem_eq

/-! ### Extensions -/

theorem Unary.run_inDestination (hs : s.Invariant) (r : Unary) : InRegisters s (destination s r.wd r.vd) (r.run s) :=
  loop_inDestination hs fun _ v => ⟨_, v.sat, rfl⟩

theorem Unary.run_sat (r : Unary) : (r.run s).sat = s.vxsat := loop_sat fun _ _ => rfl

theorem extension_run {k : Nat} {f : (w2 w : Nat) → BitVec w2 → BitVec w} {g : BitVec (s.sew / 2 ^ k) → BitVec s.sew}
    (hk : k ≤ 3) (ht : s.typingOk = true) (hs : [narrow s vd, fraction s k vs2].all Shape.ok = true)
    (hf : ∀ b, f (s.sew / 2 ^ k) s.sew b = g b) :
    Completes s (extension vm vd vs2 k f s) (Unary.run s ⟨vm, vd, vs2, s.sew / 2 ^ k, s.sew, g⟩) := by
  obtain rfl : f (s.sew / 2 ^ k) s.sew = g := funext hf
  rw [← extensionShapes_eq] at hs
  exact extension_completes f hk ht hs

theorem exec_extensionRows {r : Unary} (hrow : extensionRows s i = some r) (hr : Ready s i) :
    Completes s (exec i s) (r.run s) := by
  obtain ⟨-, -, ht, hl⟩ := hr
  unfold extensionRows at hrow
  split at hrow <;> cases hrow
  case h_1 => exact extension_run (k := 3) (by omega) ht hl zextElem_eq
  case h_2 => exact extension_run (k := 3) (by omega) ht hl sextElem_eq
  case h_3 => exact extension_run (k := 2) (by omega) ht hl zextElem_eq
  case h_4 => exact extension_run (k := 2) (by omega) ht hl sextElem_eq
  case h_5 => exact extension_run (k := 1) (by omega) ht hl zextElem_eq
  case h_6 => exact extension_run (k := 1) (by omega) ht hl sextElem_eq

end Sys2Proof.Claims
end

section
/-! The widening, narrowing and extension operations (44_widening_narrowing): results and frames. -/

namespace Sys2Proof.Machine

open Sys2Proof.Reference Sys2Proof.Claims

/-- Settles O36, row by row (`exec_wideningRows`). -/
theorem wideningResults : Obligations.WideningResults :=
  binaryResults_of_commands exec_wideningRows wideningRows_neverClamps

/-- Settles O37, row by row (`exec_wideningMultiplyAddRows`); each body writes its own element of `vd`
(`Ternary.run_inDestination`). -/
theorem wideningMultiplyAddResults : Obligations.WideningMultiplyAddResults := by
  intro s i r hrow hr
  obtain ⟨hinv, -, -, -⟩ := id hr
  exact ⟨(r.run_inDestination (State.inv_iff.mp hinv)).done (exec_wideningMultiplyAddRows hrow hr), r.run_sat⟩

/-- Settles O38, row by row (`exec_narrowingRows`). -/
theorem narrowingResults : Obligations.NarrowingResults :=
  binaryResults_of_commands exec_narrowingRows narrowingRows_neverClamps

/-- Settles O39, row by row (`exec_extensionRows`); each body writes its own element of `vd` (`Unary.run_inDestination`). -/
theorem extensionResults : Obligations.ExtensionResults := by
  intro s i r hrow hr
  obtain ⟨hinv, -, -, -⟩ := id hr
  exact ⟨(r.run_inDestination (State.inv_iff.mp hinv)).done (exec_extensionRows hrow hr), r.run_sat⟩

end Sys2Proof.Machine
end

section
/-! SUPPORT. The rounding function in the statements' terms (45_fixed_point R800). -/

namespace Sys2Proof.Claims

open Sys2Proof.Machine

variable (v : Int) (d : Nat)

theorem floor_div_two_pow : ⌊(v : ℚ) / 2 ^ d⌋ = v / 2 ^ d := by
  exact_mod_cast Rat.floor_intCast_div_natCast v (2 ^ d)

theorem bitOf_eq_one_iff : bitOf v d = 1 ↔ intBit v d = true := by simp [bitOf, intBit, floor_div_two_pow]

theorem bitOf_eq_zero_iff : bitOf v d = 0 ↔ intBit v d = false := by simp [bitOf, intBit, floor_div_two_pow]

theorem bitOf_eq_ite : bitOf v d = if intBit v d then 1 else 0 := by
  cases h : intBit v d
  case false => exact (bitOf_eq_zero_iff v d).mpr h
  case true => exact (bitOf_eq_one_iff v d).mpr h

/-- The machine's increment bit is the table's increment, mode by mode. -/
theorem increment_eq_ite (rm : RoundMode) : increment v d rm = if roundBit v d rm then 1 else 0 := by
  cases rm with
  | rnu => exact bitOf_eq_ite v (d - 1)
  | rne => simp [increment, roundBit, bitOf_eq_one_iff]
  | rdn => rfl
  | rod => simp [increment, roundBit, bitOf_eq_zero_iff]

end Sys2Proof.Claims
end

section
/-! SUPPORT. The fixed-point instructions row by row (45_fixed_point): a command that may clamp is done with its fold, which carries
the flag, and the averaging table never sets `vxsat`. -/

namespace Sys2Proof.Claims

open Sys2Proof.Machine Sys2Proof.Reference

variable {s : State} {i : Instr} {r : Binary}

/-- A two-operand command changes its destination's elements only, whether or not its elements clamp. -/
theorem BinaryCommand.done (h : BinaryCommand s r (exec i s)) (hr : Ready s i) :
    Done s (exec i s) (r.run s) (destination s r.wd r.vd) := by
  obtain ⟨hinv, -, -, -⟩ := hr
  exact (r.run_inDestination (State.inv_iff.mp hinv)).done h.completes

theorem averagingRows_neverClamps (hrow : averagingRows s i = some r) : r.NeverClamps := by
  unfold averagingRows at hrow
  split at hrow
  case h_15 => cases hrow
  all_goals exact same_neverClamps hrow

end Sys2Proof.Claims
end

section
/-! The fixed-point operations (45_fixed_point): rounding, results and frames. -/

namespace Sys2Proof.Machine

open Sys2Proof.Reference Sys2Proof.Claims

/-- Settles O29: floor division is the machine's quotient, and the increments agree mode by mode (`increment_eq_ite`). -/
theorem rounding : Obligations.Rounding := by
  intro v d rm
  rw [roundoff, floor_div_two_pow, increment_eq_ite]

/-- Settles O40, row by row (`exec_saturatingRows`); the fold sets `vxsat`, which the frame of the destination leaves open. -/
theorem saturatingResults : Obligations.SaturatingResults := fun _ _ _ hrow hr => (exec_saturatingRows hrow hr).done hr

/-- Settles O41, row by row (`exec_averagingRows`). -/
theorem averagingResults : Obligations.AveragingResults :=
  binaryResults_of_commands exec_averagingRows averagingRows_neverClamps

/-- Settles O42, row by row (`exec_fractionalRows`); the fold sets `vxsat`, for the clips under `NCLIP_SATURATES` alone. -/
theorem fractionalResults : Obligations.FractionalResults := fun _ _ _ hrow hr => (exec_fractionalRows hrow hr).done hr

end Sys2Proof.Machine
end

section
/-! SUPPORT. Quotient and remainder on one element, and the table of multiply-high, divide and remainder, whose rows never set
`vxsat` (46_multiply_high_divide R901, R913, R920 to R923). -/

namespace Sys2Proof.Machine

section
variable {w : Nat} (b : BitVec w) {a : BitVec w}

theorem divuElem_mul_add_remuElem (ha : a ≠ 0) :
    (divuElem w b a).toNat * a.toNat + (remuElem w b a).toNat = b.toNat := by
  rw [divuElem_eq, remuElem_eq, if_neg ha, if_neg ha, BitVec.toNat_udiv, BitVec.toNat_umod, Nat.div_add_mod']

theorem remuElem_toNat_lt (ha : a ≠ 0) : (remuElem w b a).toNat < a.toNat := by
  have hpos : 0 < a.toNat := Nat.pos_of_ne_zero (mt (toNat_eq_zero_iff a).mp ha)
  rw [remuElem_eq, if_neg ha, BitVec.toNat_umod]
  exact Nat.mod_lt _ hpos

/-- The division identity of the integers, cut to `w` bits: it holds at the overflow too, where the quotient wraps (46 R913). -/
theorem sdiv_mul_add_srem (a : BitVec w) : b.sdiv a * a + b.srem a = b := by
  calc b.sdiv a * a + b.srem a
      = trunc w (b.toInt.tdiv a.toInt * a.toInt + b.toInt.tmod a.toInt) := by
        rw [trunc_add, trunc_mul, trunc_tdiv, ← BitVec.toInt_srem, trunc_toInt, trunc_toInt, BitVec.signExtend_eq,
          BitVec.signExtend_eq]
    _ = b := by rw [Int.tdiv_mul_add_tmod, trunc_toInt, BitVec.signExtend_eq]

theorem divElem_mul_add_remElem (ha : a ≠ 0) : divElem w b a * a + remElem w b a = b := by
  rw [divElem_eq, remElem_eq, if_neg ha, if_neg ha, sdiv_mul_add_srem]

theorem remElem_natAbs_lt (ha : a ≠ 0) : (remElem w b a).toInt.natAbs < a.toInt.natAbs := by
  have hpos : 0 < a.toInt.natAbs := Int.natAbs_pos.mpr (mt (toInt_eq_zero_iff a).mp ha)
  rw [remElem_eq, if_neg ha, BitVec.toInt_srem, Int.natAbs_tmod]
  exact Nat.mod_lt _ hpos

/-- Short of the overflow the quotient is not cut (46 R921). -/
theorem divElem_toInt (ha : a ≠ 0) (hover : ¬ (b = BitVec.intMin w ∧ a = BitVec.allOnes w)) :
    (divElem w b a).toInt = b.toInt.tdiv a.toInt := by
  rw [divElem_eq, if_neg ha]
  rw [← BitVec.neg_one_eq_allOnes] at hover
  exact BitVec.toInt_sdiv_of_ne_or_ne b a (not_and_or.mp hover)

theorem allOnes_ne_zero (hw : 0 < w) : BitVec.allOnes w ≠ 0 := by
  rw [Ne, ← toInt_eq_zero_iff, BitVec.toInt_allOnes, if_pos hw]
  decide

theorem divElem_intMin_allOnes (hw : 0 < w) : divElem w (BitVec.intMin w) (BitVec.allOnes w) = BitVec.intMin w := by
  rw [divElem_eq, if_neg (allOnes_ne_zero hw), ← BitVec.neg_one_eq_allOnes, BitVec.intMin_sdiv_neg_one]

/-- No number leaves a remainder on division by -1, the most negative included (46 R923). -/
theorem remElem_allOnes (hw : 0 < w) : remElem w b (BitVec.allOnes w) = 0 := by
  apply BitVec.eq_of_toInt_eq
  rw [remElem_eq, if_neg (allOnes_ne_zero hw), BitVec.toInt_srem, BitVec.toInt_allOnes, if_pos hw, Int.tmod_neg, Int.tmod_one]
  exact BitVec.toInt_zero.symm

theorem divuElem_zero : divuElem w b 0 = BitVec.allOnes w := by rw [divuElem_eq, if_pos rfl]
theorem divElem_zero : divElem w b 0 = BitVec.allOnes w := by rw [divElem_eq, if_pos rfl]
theorem remuElem_zero : remuElem w b 0 = b := by rw [remuElem_eq, if_pos rfl]
theorem remElem_zero : remElem w b 0 = b := by rw [remElem_eq, if_pos rfl]

end

end Sys2Proof.Machine

namespace Sys2Proof.Claims

open Sys2Proof.Machine Sys2Proof.Reference

theorem multiplyDivideRows_neverClamps {s : State} {i : Instr} {r : Binary} (hrow : multiplyDivideRows s i = some r) :
    r.NeverClamps := by
  unfold multiplyDivideRows at hrow
  split at hrow
  case h_15 => cases hrow
  all_goals exact same_neverClamps hrow

end Sys2Proof.Claims
end

section
/-! Multiply-high, divide and remainder (46_multiply_high_divide): results and frames, and the division identity. -/

namespace Sys2Proof.Machine

open Sys2Proof.Reference Sys2Proof.Claims

/-- Settles O43, row by row (`exec_multiplyDivideRows`). -/
theorem multiplyDivideResults : Obligations.MultiplyDivideResults :=
  binaryResults_of_commands exec_multiplyDivideRows multiplyDivideRows_neverClamps

/-- Settles O44: the element functions are the bit-string quotients and remainders away from a zero divisor (`divuElem_eq` and its
like), and each clause is a fact about those. -/
theorem divisionIdentity : Obligations.DivisionIdentity := fun _ b _ hw =>
  ⟨fun ha => ⟨divuElem_mul_add_remuElem b ha, remuElem_toNat_lt b ha⟩,
    fun ha => ⟨divElem_mul_add_remElem b ha, remElem_natAbs_lt b ha⟩,
    divElem_toInt b, divElem_intMin_allOnes hw, remElem_allOnes _ hw,
    divuElem_zero b, divElem_zero b, remuElem_zero b, remElem_zero b⟩

end Sys2Proof.Machine
end

section
/-! The reductions (47_reductions): one write of element 0 of `vd`, and the results. -/

namespace Sys2Proof.Claims

open Sys2Proof.Machine Sys2Proof.Reference

variable {s : State}

/-- A reduction changes nothing, or puts one value into element 0 of `vd` (47_reductions R950, R951). -/
theorem Reduction.run_cases (r : Reduction) :
    r.run s = view s ∨ ∃ acc : BitVec r.aw, r.run s = (view s).put s.cfg r.aw r.vd 0 acc := by
  unfold Reduction.run reduced
  split
  case isTrue => exact .inl rfl
  case isFalse => exact .inr ⟨_, rfl⟩

theorem Reduction.run_inRegisters (hs : s.Invariant) (r : Reduction) :
    InRegisters s (elemBytes s.cfg r.aw r.vd 0) (r.run s) := by
  obtain hkeep | ⟨acc, hput⟩ := r.run_cases (s := s)
  · exact hkeep ▸ .start hs
  · exact hput ▸ (InRegisters.start hs).put acc s.vxsat (List.Subset.refl _)

theorem Reduction.run_sat (r : Reduction) : (r.run s).sat = s.vxsat := by
  obtain hkeep | ⟨acc, hput⟩ := r.run_cases (s := s)
  · rw [hkeep]; rfl
  · rw [hput]; rfl

end Sys2Proof.Claims

namespace Sys2Proof.Machine

open Sys2Proof.Reference Sys2Proof.Claims

/-- Settles O45, row by row (`exec_reductionCommand`); the one write is to element 0 of `vd` (`Reduction.run_inRegisters`). -/
theorem reductionResults : Obligations.ReductionResults := by
  intro s i r hrow hr
  obtain ⟨hinv, -, -, -⟩ := id hr
  obtain ⟨-, -, hcompletes⟩ := exec_reductionCommand hrow hr
  exact ⟨(r.run_inRegisters (State.inv_iff.mp hinv)).done hcompletes, r.run_sat⟩

end Sys2Proof.Machine
end

section
/-! SUPPORT. A step without a waiting action, by what the dispatcher makes of the fetched word (30_encoding R350, 60_exceptions R1201,
R1220). -/

namespace Sys2Proof.Machine

variable {s : State} {w : InstrWord} {i : Instr}

theorem step_of_issue_ok (hin : s.inbox = []) (hfetch : s.fetch = some w) (h : s.issue w = .ok i) : step s = exec i s := by
  simp only [step, hin, hfetch, h]

theorem step_of_issue_error {o : Host.Outcome State Fault Refusal} (hin : s.inbox = []) (hfetch : s.fetch = some w)
    (h : s.issue w = .error o) : step s = o := by
  simp only [step, hin, hfetch, h]

theorem State.issue_of_vsOn (hd : decode w = .instr i) (hon : s.vsOn = true) : s.issue w = .ok i := by
  simp only [State.issue, hd, hon, if_true]

theorem State.issue_of_not_vsOn (hd : decode w = .instr i) (hoff : s.vsOn = false) :
    s.issue w = .error (.next (s.takeTrap .illegalInstruction)) := by
  simp only [State.issue, hd, hoff, Bool.false_eq_true, if_false]

theorem State.issue_of_unadmitted {u : Unadmitted} (hd : decode w = .unadmitted u) :
    s.issue w = .error (.refused (.unadmitted u)) := by
  simp only [State.issue, hd]

end Sys2Proof.Machine
end

section
/-! The dispatcher's steps, and traps as they are delivered (60_exceptions R1201, R1204, R1206, R1209 to R1211, R1220, R1240). -/

namespace Sys2Proof.Machine

/-- Settles O5: the dispatcher issues the instruction, and the decoder gives well-formed ones only. -/
theorem stepRunsDecoded : Obligations.StepRunsDecoded := fun _ _ _ hin hfetch hd hon =>
  ⟨decode_wf hd, step_of_issue_ok hin hfetch (State.issue_of_vsOn hd hon)⟩

/-- Settles O6: each clause is one branch of `step` or of the dispatcher's checks. -/
theorem dispatcherOutcomes : Obligations.DispatcherOutcomes := by
  intro s
  refine ⟨fun a rest hin => ?_, fun hin hfetch => ?_, fun w u hin hfetch hd => ?_, fun w i hin hfetch hd hoff => ?_⟩
  · simp only [step, hin]
  · simp only [step, hin, hfetch]
  · exact step_of_issue_error hin hfetch (State.issue_of_unadmitted hd)
  · exact step_of_issue_error hin hfetch (State.issue_of_not_vsOn hd hoff)

/-- Settles O30: the delivery sets the fields it lists, and the return takes the pc from the one that saved it. -/
theorem trapDelivery : Obligations.TrapDelivery := fun _ _ => ⟨rfl, rfl, rfl, rfl, rfl⟩

/-- Settles O31, code by code. -/
theorem causeCodes : Obligations.CauseCodes := fun _ _ => ⟨rfl, rfl, rfl, rfl, rfl, rfl, rfl, fun _ _ => rfl⟩

end Sys2Proof.Machine
end

section
/-! Reset (70_reset R1302) and launch (R1304). -/

namespace Sys2Proof.Machine

open Sys2Proof.Reference

/-! ### Reset -/

theorem State.Invariant.resetOf {c : Config} (hc : c.wf = true) : (State.resetOf c).Invariant := by
  have hwf := hc
  simp only [Config.wf, Bool.and_eq_true, decide_eq_true_eq] at hwf
  obtain ⟨-, hreset⟩ := hwf
  have h0 : 0 < (State.resetOf c).xmod := Nat.two_pow_pos _
  exact {
    cfg := hc
    vrf := rfl
    marks := rfl
    mem := rfl
    hidden := rfl
    x := List.length_replicate
    vl := h0
    vstart := h0
    pc := hreset
    launch := hreset
    xepc := h0
    xtvec := h0
    xcause := h0
    xtval := h0 }

/-- SEW is 8 and LMUL is 1 after reset, so that VLMAX is `8 * VLENB / 8` (10_state R112, R121). -/
theorem State.typingOk_resetOf {c : Config} (hc : c.wf = true) : (State.resetOf c).typingOk = true := by
  simp only [Config.wf, Bool.and_eq_true, decide_eq_true_eq] at hc
  obtain ⟨⟨⟨hvlenb, -⟩, -⟩, -⟩ := hc
  have hgroup : (State.resetOf c).groupBits = 8 * c.vlenb := rfl
  have hsew : (State.resetOf c).sew = 8 := rfl
  have hvlmax : 1 ≤ 8 * c.vlenb / 8 := by omega
  simp only [State.typingOk, State.vlmax, hgroup, hsew, Nat.mul_mod_right, hvlmax]
  rfl

theorem wf_default : Config.default.wf = true := by decide

/-- Settles O10: every field is a constant or the reset vector, which a legal machine keeps below `2^XLEN`. -/
theorem resetInvariant : Obligations.ResetInvariant := by
  have hreset {c : Config} (hc : c.wf = true) : (State.resetOf c).inv = true ∧ (State.resetOf c).typingOk = true :=
    ⟨State.inv_iff.mpr (.resetOf hc), State.typingOk_resetOf hc⟩
  exact ⟨fun _ hc => hreset hc, hreset wf_default⟩

/-! ### Launch -/

/-- Word `k` is fetched where the pc stands `4k` above the launch address, modulo `2^XLEN` (70_reset R1304). -/
theorem State.fetch_of_offset {s : State} {k : Nat} (h : s.addr ((s.pc : Int) - s.launch) = 4 * k) :
    s.fetch = s.program[k]? := by
  simp only [State.fetch, h, Nat.mul_mod_right, if_true, Nat.mul_div_cancel_left k (by decide : 0 < 4)]

/-- The distance of two addresses does not depend on how far they wrapped (20_memory R200). -/
theorem State.addr_sub_addr (s : State) (a b : Int) : s.addr ((s.addr a : Int) - (s.addr b : Nat)) = s.addr (a - b) := by
  have hpos : (0 : Int) < s.xmod := by exact_mod_cast Nat.two_pow_pos s.cfg.xlen.bits
  have hcast (z : Int) : ((s.addr z : Nat) : Int) = z % s.xmod := Int.toNat_of_nonneg (Int.emod_nonneg z hpos.ne')
  rw [hcast, hcast, State.addr, ← Int.sub_emod, State.addr]

/-- Settles O7: the pc stands `4k` above the launch address, below `2^XLEN`, so that the distance is not cut. -/
theorem launchedProgram : Obligations.LaunchedProgram := by
  refine ⟨fun s a0 k words w hlen hk => ⟨rfl, ?_⟩, fun s w hw => ?_⟩
  · obtain ⟨hlt, -⟩ := List.getElem?_eq_some_iff.mp hk
    have hoff : s.addr ((s.addr (a0 + 4 * k) : Int) - (a0 % s.xmod : Nat)) = 4 * k := by
      rw [← s.addr_natCast a0, s.addr_sub_addr, add_sub_cancel_left]
      exact (s.addr_natCast (4 * k)).trans (Nat.mod_eq_of_lt (by omega))
    exact (State.fetch_of_offset hoff).trans hk
  · have hoff : (s.withFetchWord 32 w).addr (((s.withFetchWord 32 w).pc : Int) - (s.withFetchWord 32 w).launch) = 4 * 0 := by
      simp [State.withFetchWord, State.addr]
    rw [State.fetch_of_offset hoff, State.withFetchWord, Nat.mod_eq_of_lt hw]
    rfl

end Sys2Proof.Machine
end

section
/-! Arithmetic never traps (60_exceptions R1200, R1203). -/

namespace Sys2Proof.Machine

open Sys2Proof.Reference Sys2Proof.Claims

/-- Where the typing precondition holds every command gives a next state (10_state R112, 40_element_engine R412). -/
theorem exec_next {i : Instr} {s : State} (hw : i.wf = true) (hs : s.inv = true) (ht : s.typingOk = true) :
    ∃ t, exec i s = .next t := by
  rcases h : exec i s with t | f | why
  · exact ⟨t, rfl⟩
  · exact absurd h (exec_ne_fault hw (State.inv_cfg hs) f)
  · obtain ⟨shapesOk, r, hchecks⟩ := exec_checks i s
    rw [hchecks, ht] at h
    cases shapesOk with
    | false => cases h
    | true => exact absurd h (finish_ne_refused r why)

/-- Settles O18: of the ends of a command, the trap of a failed shape check is shut out by the legal shapes (`illegalShapes`), and a memory
fault needs a call of the memory port. -/
theorem arithmeticNeverTraps : Obligations.ArithmeticNeverTraps := by
  intro i s hr hmem
  obtain ⟨hs, hw, ht, -⟩ := id hr
  obtain ⟨t, hnext⟩ := exec_next hw hs ht
  refine ⟨t, hnext, ?_⟩
  have hlegal := illegalShapes.2 i s t hr hnext
  cases exec_ends hw (State.inv_cfg hs) hnext with
  | illegal => exact absurd rfl hlegal
  | completed => rfl
  | truncated => rfl
  | faulted _ hcall => rw [effects_call, hmem] at hcall; cases hcall

end Sys2Proof.Machine
end

section
/-! SUPPORT. The gathers and slides row by row (48_permutation): each completes with the fold of its body, which writes its own
element of `vd` or nothing. -/

namespace Sys2Proof.Claims

open Sys2Proof.Machine Sys2Proof.Reference

variable {s : State} {i : Instr} {r : Permutation}

theorem exec_permutationRows (hrow : permutationRows s i = some r) (hr : Ready s i) : Completes s (exec i s) (r.run s) := by
  obtain ⟨-, -, ht, hl⟩ := hr
  have hs {vd vs2 : Nat} {src : Src} (h : (narrow s vd :: narrow s vs2 :: srcShapes s src).all Shape.ok = true) :
      sameWidthShapes vd vs2 src s = true := (sameWidthShapes_eq ..).trans h
  unfold permutationRows at hrow
  split at hrow <;> cases hrow
  case h_1 | h_2 | h_3 => exact gather_completes ht (hs hl)
  case h_4 | h_5 => exact slideUp_completes ht (hs hl)
  case h_6 | h_7 => exact slideDown_completes ht (hs hl)
  case h_8 => exact slideOneUp_completes ht (hs (src := .scalar _) hl)
  case h_9 => exact slideOneDown_completes ht (hs (src := .scalar _) hl)

/-- Every body writes its own element of `vd`, but for a slide up below its offset, which writes nothing (48_permutation R1020). -/
theorem permutationRows_body (hrow : permutationRows s i = some r) (ei : Nat) (v : View) :
    r.body ei v = v ∨ ∃ x : BitVec s.sew, r.body ei v = v.put s.cfg s.sew r.vd ei x := by
  unfold permutationRows at hrow
  split at hrow <;> cases hrow
  case h_4 | h_5 =>
    dsimp only [slidUp]
    split
    · exact .inr ⟨_, rfl⟩
    · exact .inl rfl
  all_goals exact .inr ⟨_, rfl⟩

theorem Permutation.run_inDestination (hrow : permutationRows s i = some r) (hs : s.Invariant) :
    InRegisters s (destination s s.sew r.vd) (r.run s) := by
  refine runOver_induction (P := InRegisters s _) (fun ei hei v h _ => ?_) (.start hs)
  obtain hkeep | ⟨x, hput⟩ := permutationRows_body hrow ei v
  · rw [hkeep]; exact h
  · exact hput ▸ h.put x v.sat (elemBytes_subset_destination hei)

theorem Permutation.run_sat (hrow : permutationRows s i = some r) : (r.run s).sat = s.vxsat := by
  refine loop_sat fun ei v => ?_
  obtain hkeep | ⟨x, hput⟩ := permutationRows_body hrow ei v
  · rw [hkeep]
  · rw [hput]; rfl

end Sys2Proof.Claims
end

section
/-! The gathers and slides (48_permutation): results and frames. -/

namespace Sys2Proof.Machine

open Sys2Proof.Reference Sys2Proof.Claims

/-- Settles O46, row by row (`exec_permutationRows`); a body writes its own element of `vd` or nothing
(`permutationRows_body`). -/
theorem permutationResults : Obligations.PermutationResults := by
  intro s i r hrow hr
  obtain ⟨hinv, -, -, -⟩ := id hr
  exact ⟨(Permutation.run_inDestination hrow (State.inv_iff.mp hinv)).done (exec_permutationRows hrow hr),
    Permutation.run_sat hrow⟩

end Sys2Proof.Machine
end

section
/-! SUPPORT. The frame of a mask-producing command: only the bytes of `vd` that hold the mask bits of its elements change, free bits
of `agnostic` included (40_element_engine R403, R405). -/

namespace Sys2Proof.Claims

open Sys2Proof.Machine Sys2Proof.Reference

/-- The changes of `m`, and the bytes it has touched, lie in the mask destination. -/
structure InMaskDestination (s : State) (vd : Nat) (m : MaskView) : Prop where
  vrf : Memory.wf m.vrf = true
  marks : Memory.wf m.marks = true
  keeps : ∀ a, a ∉ maskDestination s vd →
    Memory.read m.vrf a = Memory.read s.vrf a ∧ Memory.read m.marks a = Memory.read s.vrfWritten a
  touched : ∀ b ∈ m.touched, vd * s.cfg.vlenb + b ∈ maskDestination s vd

variable {s : State} {vd ei : Nat} {m : MaskView}

theorem InMaskDestination.start (h : s.Invariant) : InMaskDestination s vd (maskView s) := by
  have hv := h.vrf
  have hm := h.marks
  simp only [Memory.fits, Bool.and_eq_true] at hv hm
  exact ⟨hv.1, hm.1, fun _ _ => ⟨rfl, rfl⟩, nofun⟩

/-- Writing the bit of one of the command's elements. -/
theorem InMaskDestination.put (h : InMaskDestination s vd m) (hei : ei ∈ elements s) (b : Bool) :
    InMaskDestination s vd (m.put s vd ei b) := by
  have hbyte : vd * s.cfg.vlenb + ei / 8 ∈ maskDestination s vd := List.mem_map.mpr ⟨ei, hei, rfl⟩
  refine ⟨Memory.wf_write _ _ h.vrf, Memory.wf_write _ _ h.marks, fun a ha => ?_, fun B hB => ?_⟩
  · have hne : a ≠ vd * s.cfg.vlenb + ei / 8 := fun heq => ha (heq ▸ hbyte)
    obtain ⟨hvrf, hmarks⟩ := h.keeps a ha
    exact ⟨((Memory.read_write _ _ _ _ h.vrf).trans (if_neg hne)).trans hvrf,
      ((Memory.read_write _ _ _ _ h.marks).trans (if_neg hne)).trans hmarks⟩
  · have hcases : B ∈ m.touched ∨ B = ei / 8 := by
      simp only [MaskView.put] at hB
      split at hB
      · exact .inl hB
      · simpa using hB
    rcases hcases with hold | rfl
    · exact h.touched B hold
    · exact hbyte

theorem MaskRow.run_inMaskDestination (hs : s.Invariant) (r : MaskRow) : InMaskDestination s r.vd (r.run s) :=
  runOver_induction (P := InMaskDestination s r.vd) (fun _ hei _ h _ => h.put hei _) (.start hs)

/-- The free bits of `agnostic` are bits of touched bytes (40_element_engine R405). -/
theorem InMaskDestination.settles_read (h : InMaskDestination s vd m) {vrf : Memory} (hset : settles s vd m vrf) {a : Nat}
    (ha : a ∉ maskDestination s vd) : Memory.read vrf a = Memory.read s.vrf a := by
  rw [← (h.keeps a ha).1]
  refine BitVec.eq_of_getLsbD_eq fun k hk => hset a k hk fun _ b hb heq => ?_
  exact absurd (heq ▸ h.touched b hb) ha

/-- A table whose rows complete with the fold of their mask writes has the frame of its mask destination. -/
theorem maskResults_of_commands {rows : State → Instr → Option MaskRow}
    (h : ∀ {s i r}, rows s i = some r → Ready s i → CompletesMask s (exec i s) r.vd (r.run s)) : MaskResults rows := by
  intro s i r hrow hr
  obtain ⟨hinv, -, -, -⟩ := id hr
  have hframe := r.run_inMaskDestination (State.inv_iff.mp hinv)
  have hcompletes := h hrow hr
  refine ⟨hcompletes, fun t ht a ha => ?_⟩
  obtain ⟨vrf, bad, draws, hset, hnext⟩ := hcompletes
  cases ht.symm.trans hnext
  exact ⟨hframe.settles_read hset ha, (hframe.keeps a ha).2⟩

end Sys2Proof.Claims
end

section
/-! SUPPORT. The mask-producing instructions row by row (49_compare_mask): each completes with the fold of its mask writes. -/

namespace Sys2Proof.Machine

section
variable {w : Nat} (b a : BitVec w) (c : Bool)

/-! ### The predicates (49_compare_mask R1110 to R1121) -/

theorem seqTest_eq : seqTest w b a = (b == a) := rfl
theorem sneTest_eq : sneTest w b a = (b != a) := rfl
theorem sltuTest_eq : sltuTest w b a = b.ult a := rfl
theorem sltTest_eq : sltTest w b a = b.slt a := rfl
theorem sleuTest_eq : sleuTest w b a = b.ule a := rfl
theorem sleTest_eq : sleTest w b a = b.sle a := rfl
theorem sgtuTest_eq : sgtuTest w b a = a.ult b := rfl
theorem sgtTest_eq : sgtTest w b a = a.slt b := rfl
theorem carryOf_eq : carryOf w b a c = Claims.carries b a c := rfl

theorem borrowOf_eq : borrowOf w b a c = Claims.borrows b a c := by
  unfold borrowOf Claims.borrows
  exact decide_eq_decide.mpr (by omega)

end

end Sys2Proof.Machine

namespace Sys2Proof.Claims

open Sys2Proof.Machine Sys2Proof.Reference

variable {s : State} {i : Instr} {r : MaskRow} {vm : Bool} {vd vs2 : Nat} {src : Src}

/-! ### The classes -/

theorem compare_run {p : (w : Nat) → BitVec w → BitVec w → Bool} {q : BitVec s.sew → BitVec s.sew → Bool}
    (hs : s.Invariant) (ht : s.typingOk = true) (hvd : vd < 32)
    (hl : (narrow s vs2 :: srcShapes s src).all Shape.ok = true) (hp : ∀ b a, p s.sew b a = q b a) :
    CompletesMask s (compare vm vd vs2 src p s) vd (MaskRow.run s ⟨vm, false, vd, vs2, src, s.sew, fun b a _ => q b a⟩) := by
  obtain rfl : p s.sew = q := funext₂ hp
  rw [← maskShapes_eq] at hl
  exact compare_completes p (InMaskDestination.start (vd := vd) hs).vrf ht hl hvd

theorem carryOut_run {p : (w : Nat) → BitVec w → BitVec w → Bool → Bool} {q : BitVec s.sew → BitVec s.sew → Bool → Bool}
    (hs : s.Invariant) (ht : s.typingOk = true) (hvd : vd < 32)
    (hl : (narrow s vs2 :: srcShapes s src).all Shape.ok = true) (hp : ∀ b a c, p s.sew b a c = q b a c) :
    CompletesMask s (carryOut vd vs2 src p s) vd (MaskRow.run s ⟨true, false, vd, vs2, src, s.sew, q⟩) := by
  obtain rfl : p s.sew = q := funext₃ hp
  rw [← maskShapes_eq] at hl
  exact carryOut_completes p (InMaskDestination.start (vd := vd) hs).vrf ht hl hvd

theorem carryOutIn_run {p : (w : Nat) → BitVec w → BitVec w → Bool → Bool} {q : BitVec s.sew → BitVec s.sew → Bool → Bool}
    (hs : s.Invariant) (ht : s.typingOk = true) (hvd : vd < 32)
    (hl : (narrow s vs2 :: srcShapes s src).all Shape.ok = true) (hp : ∀ b a c, p s.sew b a c = q b a c) :
    CompletesMask s (carryOutIn vd vs2 src p s) vd (MaskRow.run s ⟨true, true, vd, vs2, src, s.sew, q⟩) := by
  obtain rfl : p s.sew = q := funext₃ hp
  rw [← maskShapes_eq] at hl
  exact carryOutIn_completes p (InMaskDestination.start (vd := vd) hs).vrf ht hl hvd

/-! ### Table by table -/

theorem exec_compareRows (hrow : compareRows s i = some r) (hr : Ready s i) : CompletesMask s (exec i s) r.vd (r.run s) := by
  obtain ⟨hinv, hw, ht, hl⟩ := hr
  have hs := State.inv_iff.mp hinv
  unfold compareRows at hrow
  split at hrow <;> cases hrow
  case h_1 | h_2 | h_3 => exact compare_run hs ht (vd_lt hw) hl seqTest_eq
  case h_4 | h_5 | h_6 => exact compare_run hs ht (vd_lt hw) hl sneTest_eq
  case h_7 | h_8 => exact compare_run hs ht (vd_lt hw) hl sltuTest_eq
  case h_9 | h_10 => exact compare_run hs ht (vd_lt hw) hl sltTest_eq
  case h_11 | h_12 | h_13 => exact compare_run hs ht (vd_lt hw) hl sleuTest_eq
  case h_14 | h_15 | h_16 => exact compare_run hs ht (vd_lt hw) hl sleTest_eq
  case h_17 | h_18 => exact compare_run hs ht (vd_lt hw) hl sgtuTest_eq
  case h_19 | h_20 => exact compare_run hs ht (vd_lt hw) hl sgtTest_eq

theorem exec_carryOutRows (hrow : carryOutRows s i = some r) (hr : Ready s i) :
    CompletesMask s (exec i s) r.vd (r.run s) := by
  obtain ⟨hinv, hw, ht, hl⟩ := hr
  have hs := State.inv_iff.mp hinv
  unfold carryOutRows at hrow
  split at hrow <;> cases hrow
  case h_1 | h_2 | h_3 => exact carryOutIn_run hs ht (vd_lt hw) hl carryOf_eq
  case h_4 | h_5 | h_6 => exact carryOut_run hs ht (vd_lt hw) hl carryOf_eq
  case h_7 | h_8 => exact carryOutIn_run hs ht (vd_lt hw) hl borrowOf_eq
  case h_9 | h_10 => exact carryOut_run hs ht (vd_lt hw) hl borrowOf_eq

end Sys2Proof.Claims
end

section
/-! The compares, carry-outs and borrow-outs (49_compare_mask): results and frames. -/

namespace Sys2Proof.Machine

open Sys2Proof.Reference Sys2Proof.Claims

/-- Settles O47, row by row (`exec_compareRows`). -/
theorem compareResults : Obligations.CompareResults := maskResults_of_commands exec_compareRows

/-- Settles O48, row by row (`exec_carryOutRows`). -/
theorem carryOutResults : Obligations.CarryOutResults := maskResults_of_commands exec_carryOutRows

end Sys2Proof.Machine
end

section
/-! SUPPORT. Runs of stores made twice: an access that is run again over what it has already moved changes nothing more (60_exceptions
R1212). -/

namespace Sys2Proof.Machine

/-- A run of stores with fixed values: each byte it either leaves alone or sets, whatever it held before. -/
structure Overwrites (f : Memory → Memory) : Prop where
  wf : ∀ {m}, Memory.wf m = true → Memory.wf (f m) = true
  bytes : ∀ a, (∀ m, Memory.wf m = true → Memory.read (f m) a = Memory.read m a)
    ∨ ∃ b, ∀ m, Memory.wf m = true → Memory.read (f m) a = b

variable {f g : Memory → Memory}

theorem Overwrites.id : Overwrites fun m => m := ⟨fun h => h, fun _ => .inl fun _ _ => rfl⟩

theorem Overwrites.comp (hg : Overwrites g) (hf : Overwrites f) : Overwrites fun m => g (f m) where
  wf h := hg.wf (hf.wf h)
  bytes a := by
    obtain hkeep | ⟨b, hset⟩ := hg.bytes a
    · obtain hkeep' | ⟨b, hset⟩ := hf.bytes a
      · exact .inl fun m hm => (hkeep _ (hf.wf hm)).trans (hkeep' m hm)
      · exact .inr ⟨b, fun m hm => (hkeep _ (hf.wf hm)).trans (hset m hm)⟩
    · exact .inr ⟨b, fun m hm => hset _ (hf.wf hm)⟩

theorem Overwrites.write (k : Nat) (v : Byte) : Overwrites fun m => Memory.write m k v where
  wf h := Memory.wf_write k v h
  bytes a := by
    by_cases ha : a = k
    · exact .inr ⟨v, fun m hm => (Memory.read_write m k a v hm).trans (if_pos ha)⟩
    · exact .inl fun m hm => (Memory.read_write m k a v hm).trans (if_neg ha)

theorem Overwrites.writeList (as : List Nat) (v : Nat) : Overwrites fun m => Memory.writeList m as v := by
  induction as generalizing v with
  | nil => exact .id
  | cons a as ih => exact (ih (v / 256)).comp (.write a (BitVec.ofNat 8 v))

theorem Overwrites.fill (v : Byte) (as : List Nat) : Overwrites fun m => Memory.fill m v as := by
  induction as with
  | nil => exact .id
  | cons a as ih => exact ih.comp (.write a v)

/-- Made twice, the stores leave what they leave made once. -/
theorem Overwrites.idem (h : Overwrites f) {m : Memory} (hm : Memory.wf m = true) : f (f m) = f m := by
  refine Memory.eq_of_read (h.wf (h.wf hm)) (h.wf hm) fun a => ?_
  obtain hkeep | ⟨b, hset⟩ := h.bytes a
  · exact hkeep _ (h.wf hm)
  · exact (hset _ (h.wf hm)).trans (hset m hm).symm

end Sys2Proof.Machine

namespace Sys2Proof.Reference

open Sys2Proof.Machine

/-- Two views with the same register file, marks and memory; the record of calls and `vxsat` are left open. -/
structure SameStores (v w : View) : Prop where
  vrf : v.vrf = w.vrf
  marks : v.marks = w.marks
  mem : v.mem = w.mem

/-- The store an access moves its values from: a store's is the register file, a load's is memory. -/
def Access.source (a : Access) (v : View) : Memory := if a.call = .write then v.vrf else v.mem

/-- On the views with the source `src`, `f` keeps the source and is a run of stores with fixed values. -/
def MovesFrom (a : Access) (src : Memory) (f : View → View) : Prop :=
  ∃ regs marks mem, Overwrites regs ∧ Overwrites marks ∧ Overwrites mem ∧ ∀ v, a.source v = src →
    a.source (f v) = src ∧ (f v).vrf = regs v.vrf ∧ (f v).marks = marks v.marks ∧ (f v).mem = mem v.mem

variable {s : State} {a : Access} {src : Memory} {f g : View → View} {v w : View}

theorem SameStores.trans {u : View} (h : SameStores u v) (h' : SameStores v w) : SameStores u w :=
  ⟨h.vrf.trans h'.vrf, h.marks.trans h'.marks, h.mem.trans h'.mem⟩

theorem SameStores.source (h : SameStores v w) : a.source v = a.source w := by
  rw [Access.source, Access.source, h.vrf, h.mem]

theorem MovesFrom.id : MovesFrom a src fun v => v :=
  ⟨_, _, _, .id, .id, .id, fun _ h => ⟨h, rfl, rfl, rfl⟩⟩

theorem MovesFrom.comp (hg : MovesFrom a src g) (hf : MovesFrom a src f) : MovesFrom a src fun v => g (f v) := by
  obtain ⟨regs, marks, mem, hregs, hmarks, hmem, hf⟩ := hf
  obtain ⟨regs', marks', mem', hregs', hmarks', hmem', hg⟩ := hg
  refine ⟨_, _, _, hregs'.comp hregs, hmarks'.comp hmarks, hmem'.comp hmem, fun v hv => ?_⟩
  obtain ⟨hsrc, hvrf, hmk, hmm⟩ := hf v hv
  rw [← hvrf, ← hmk, ← hmm]
  exact hg (f v) hsrc

/-- Views with the same stores stay so. -/
theorem MovesFrom.congr (h : MovesFrom a src f) (hv : a.source v = src) (hvw : SameStores v w) :
    SameStores (f v) (f w) := by
  obtain ⟨regs, marks, mem, -, -, -, h⟩ := h
  obtain ⟨-, hvrf, hmarks, hmem⟩ := h v hv
  obtain ⟨-, hvrf', hmarks', hmem'⟩ := h w (hvw.source.symm.trans hv)
  exact ⟨by rw [hvrf, hvrf', hvw.vrf], by rw [hmarks, hmarks', hvw.marks], by rw [hmem, hmem', hvw.mem]⟩

theorem MovesFrom.source (h : MovesFrom a src f) (hv : a.source v = src) : a.source (f v) = src := by
  obtain ⟨_, _, _, -, -, -, h⟩ := h
  exact (h v hv).1

/-- Run again, the same stores change nothing. -/
theorem MovesFrom.idem (h : MovesFrom a src f) (hv : a.source v = src) (hvrf : Memory.wf v.vrf = true)
    (hmarks : Memory.wf v.marks = true) (hmem : Memory.wf v.mem = true) : SameStores (f (f v)) (f v) := by
  obtain ⟨regs, marks, mem, hr, hm, hx, h⟩ := h
  obtain ⟨hsrc, hvrf', hmarks', hmem'⟩ := h v hv
  obtain ⟨-, hvrf'', hmarks'', hmem''⟩ := h (f v) hsrc
  exact ⟨by rw [hvrf'', hvrf', hr.idem hvrf], by rw [hmarks'', hmarks', hm.idem hmarks], by rw [hmem'', hmem', hx.idem hmem]⟩

/-- One field: a load stores what memory holds into the register file, a store the other way (42_memory_access R504). -/
theorem field_movesFrom (z : Int) (ei fi : Nat) : MovesFrom a src (field s a z ei fi) := by
  by_cases hc : a.call = .write
  · refine ⟨_, _, _, .id, .id, .writeList (memBytes s z (a.w / 8)) (elem s.cfg src a.w (a.fieldReg fi) ei).toNat,
      fun v hv => ?_⟩
    rw [Access.source, if_pos hc] at hv ⊢
    rw [field, if_pos hc, ← hv]
    exact ⟨rfl, rfl, rfl, rfl⟩
  · refine ⟨_, _, _, .writeList (elemBytes s.cfg a.w (a.fieldReg fi) ei)
      (BitVec.ofNat a.w (Memory.readList src (memBytes s z (a.w / 8)))).toNat,
      .fill 0xFF (elemBytes s.cfg a.w (a.fieldReg fi) ei), .id, fun v hv => ?_⟩
    rw [Access.source, if_neg hc] at hv ⊢
    rw [field, if_neg hc, ← hv]
    exact ⟨rfl, rfl, rfl, rfl⟩

theorem fieldsFrom_movesFrom (z : Nat → Int) (ei fi n : Nat) : MovesFrom a src (fieldsFrom s a z ei fi n) := by
  induction n generalizing fi with
  | zero => exact .id
  | succ n ih => exact (ih (fi + 1)).comp (field_movesFrom (z fi) ei fi)

/-- The elements of an access see the stores alone. -/
theorem transfer_sameStores (ei : Nat) (h : SameStores v w) : SameStores (transfer s a ei v) (transfer s a ei w) := by
  rw [transfer, transfer, fields_eq, fields_eq, ← h.vrf]
  exact (fieldsFrom_movesFrom _ ei 0 (a.nf + 1)).congr rfl h

theorem active_sameStores {vm : Bool} (ei : Nat) (h : SameStores v w) : active s vm v ei = active s vm w ei := by
  rw [active, active, h.vrf]

theorem transfers_sameStores (l : List Nat) (h : SameStores v w) :
    SameStores (runOver (active s a.vm) (transfer s a) l v) (runOver (active s a.vm) (transfer s a) l w) := by
  induction l generalizing v w with
  | nil => exact h
  | cons ei l ih =>
    simp only [runOver, List.foldl_cons] at ih ⊢
    rw [active_sameStores ei h]
    split
    · exact ih (transfer_sameStores ei h)
    · exact ih h

end Sys2Proof.Reference
end

section
/-! SUPPORT. The elements of an access resumed at its faulting one: where the mask and the addresses stay, they leave what the whole
access leaves (42_memory_access R506, 60_exceptions R1212). -/

namespace Sys2Proof.Reference

open Sys2Proof.Machine Sys2Proof.Claims

variable {s : State} {a : Access} {v w : View} {ei fi : Nat}

/-- The changes of `v` are confined to the fields of the command's elements. -/
abbrev StaysInAccess (s : State) (a : Access) (v : View) : Prop := StaysInFields s a (fieldsOf s a fun _ => true) v

theorem upTo_staysInAccess (hs : s.Invariant) (hei : ei ∈ elements s) : StaysInAccess s a (upTo s a ei) :=
  upTo_confined hs hei fun _ hp => by
    obtain ⟨he, -, hf⟩ := mem_fieldsOf.mp hp
    exact mem_fieldsOf.mpr ⟨he, rfl, hf⟩

theorem before_staysInAccess (hs : s.Invariant) (hei : ei ∈ elements s) (hfi : fi ≤ a.nf) :
    StaysInAccess s a (before s a ei fi) :=
  (upTo_staysInAccess hs hei).fields hs fun _ hf => mem_fieldsOf.mpr ⟨hei, rfl, by omega⟩

/-- Inside an access whose sources are kept, the mask and the addresses are those the command found. -/
theorem sourcesKept_found (hs : s.Invariant) (hkept : SourcesKept s a) (hv : StaysInAccess s a v) (hei : ei ∈ elements s) :
    active s a.vm v ei = active s a.vm (view s) ei ∧ ∀ fi ≤ a.nf, a.addr v.vrf ei fi = a.addr s.vrf ei fi := by
  obtain hc | hkept := hkept
  · have hvrf := hv.vrf_of_store hs hc
    exact ⟨by rw [active, hvrf]; rfl, fun _ _ => by rw [hvrf]⟩
  · obtain ⟨-, hkeeps, -⟩ := hv.confined
    exact hkept v.vrf (fun b hb => (hkeeps b hb).1) ei hei

theorem fields_of_addr {z : Nat → Int} {n : Nat} (h : ∀ f < n, a.addr v.vrf ei f = z f) :
    fields s a n ei v = fieldsFrom s a z ei 0 n v := by
  rw [fields_eq]
  refine List.foldl_ext _ _ _ fun u f hf => ?_
  obtain ⟨-, hlt⟩ := List.mem_range'_1.mp hf
  rw [h f (by omega)]

theorem fieldsFrom_add (z : Nat → Int) (m n : Nat) :
    fieldsFrom s a z ei fi (m + n) v = fieldsFrom s a z ei (fi + m) n (fieldsFrom s a z ei fi m v) := by
  simp only [fieldsFrom, ← List.foldl_append, ← List.range'_append_1]

/-- Fields moved up to some point, and then moved again from the first, end like the fields moved once. -/
theorem fieldsFrom_again {z : Nat → Int} {m : Nat} (n : Nat) (hvrf : Memory.wf v.vrf = true)
    (hmarks : Memory.wf v.marks = true) (hmem : Memory.wf v.mem = true) (hw : SameStores w (fieldsFrom s a z ei fi m v)) :
    SameStores (fieldsFrom s a z ei fi (m + n) w) (fieldsFrom s a z ei fi (m + n) v) := by
  have hfirst : MovesFrom a (a.source v) (fieldsFrom s a z ei fi m) := fieldsFrom_movesFrom z ei fi m
  have hsrc : a.source w = a.source v := hw.source.trans (hfirst.source rfl)
  have hagain := (hfirst.congr hsrc hw).trans (hfirst.idem rfl hvrf hmarks hmem)
  rw [fieldsFrom_add, fieldsFrom_add]
  exact (fieldsFrom_movesFrom z ei (fi + m) n).congr rfl hagain

/-- The faulting element run again from its first field: the fields it had moved are moved again, to the same effect. -/
theorem transfer_resumed (hs : s.Invariant) (hkept : SourcesKept s a) (hei : ei ∈ elements s) (hfi : fi ≤ a.nf)
    (hw : SameStores w (before s a ei fi)) : SameStores (transfer s a ei w) (transfer s a ei (upTo s a ei)) := by
  have hupTo := upTo_staysInAccess (a := a) hs hei
  obtain ⟨-, haddr⟩ := sourcesKept_found hs hkept hupTo hei
  obtain ⟨-, haddr'⟩ := sourcesKept_found hs hkept (before_staysInAccess hs hei hfi) hei
  rw [← hw.vrf] at haddr'
  have hmoved : before s a ei fi = fieldsFrom s a (a.addr s.vrf ei) ei 0 fi (upTo s a ei) :=
    fields_of_addr fun f hf => haddr f (by omega)
  have hn : a.nf + 1 = fi + (a.nf + 1 - fi) := by omega
  rw [transfer, transfer, fields_of_addr fun f hf => haddr f (by omega), fields_of_addr fun f hf => haddr' f (by omega), hn]
  exact fieldsFrom_again _ hupTo.vrf hupTo.marks hupTo.mem (hmoved ▸ hw)

/-- The elements of an access from one of them on (40_element_engine R406). -/
theorem loop_eq_from (hei : ei ∈ elements s) : loop s (active s a.vm) (transfer s a)
    = runOver (active s a.vm) (transfer s a) (List.range' ei (s.vl - ei)) (upTo s a ei) := by
  obtain ⟨hge, hlt⟩ := List.mem_range'_1.mp hei
  have hsplit : elements s = List.range' s.vstart (ei - s.vstart) ++ List.range' ei (s.vl - ei) := by
    have happend := List.range'_append_1 (s := s.vstart) (m := ei - s.vstart) (n := s.vl - ei)
    rw [Nat.add_sub_cancel' hge] at happend
    rw [happend, elements]
    congr 1
    omega
  rw [loop, hsplit, runOver_append]
  rfl

/-- An access resumed at an active element some of whose fields have been moved ends like the whole access. -/
theorem resumed_sameStores (hs : s.Invariant) (hkept : SourcesKept s a) (hei : ei ∈ elements s) (hfi : fi ≤ a.nf)
    (hact : active s a.vm (upTo s a ei) ei = true) (hw : SameStores w (before s a ei fi)) :
    SameStores (runOver (active s a.vm) (transfer s a) (List.range' ei (s.vl - ei)) w)
      (loop s (active s a.vm) (transfer s a)) := by
  obtain ⟨hge, hlt⟩ := List.mem_range'_1.mp hei
  obtain ⟨hact₁, -⟩ := sourcesKept_found hs hkept (upTo_staysInAccess hs hei) hei
  obtain ⟨hact₂, -⟩ := sourcesKept_found hs hkept (before_staysInAccess hs hei hfi) hei
  have hactive : active s a.vm w ei = true := ((active_sameStores ei hw).trans (hact₂.trans hact₁.symm)).trans hact
  have hn : s.vl - ei = (s.vl - ei - 1) + 1 := by omega
  rw [loop_eq_from hei, hn, List.range'_succ]
  simp only [runOver, List.foldl_cons, hactive, hact, if_true]
  exact transfers_sameStores _ (transfer_resumed hs hkept hei hfi hw)

end Sys2Proof.Reference
end

section
/-! Resumption after a memory fault (60_exceptions R1211, R1212, 42_memory_access R506). -/

namespace Sys2Proof.Claims

open Sys2Proof.Machine Sys2Proof.Reference

/-- `s` again at the pc of its command, after a memory fault at element `k` with the changes of `v` made. -/
def resumed (s : State) (v : View) (k : Nat) (store : Bool) (info : FaultInfo) (bad : Bool) : State :=
  { inside s v k bad with
    result := some (.trap (.memFault store info)), xepc := s.pc, xcause := Trap.cause (.memFault store info)
    xtval := info.addr }

variable {s : State} {v : View} {k : Nat} {store : Bool} {info : FaultInfo} {bad : Bool} {i : Instr}

/-- The handler's return from a memory fault. -/
theorem trapReturn_of_traps {o : Host.Outcome State Fault Refusal} {t : State} (h : Traps s o k store info v)
    (ho : o = .next t) : ∃ bad, t.trapReturn = resumed s v k store info bad := by
  obtain ⟨bad, hnext⟩ := h
  cases ho.symm.trans hnext
  exact ⟨bad, rfl⟩

/-! ### What the trap and the return leave -/

theorem resumed_typingOk : (resumed s v k store info bad).typingOk = s.typingOk := rfl

theorem resumed_legal : legal (resumed s v k store info bad) i = legal s i := rfl

theorem resumed_accessRows : accessRows (resumed s v k store info bad) i = accessRows s i := rfl

theorem resumed_loop (a : Access) :
    loop (resumed s v k store info bad) (active (resumed s v k store info bad) a.vm) (transfer (resumed s v k store info bad) a)
      = runOver (active s a.vm) (transfer s a) (List.range' k (s.vl - k)) v := rfl

/-- The command issued again is ready again. -/
theorem Ready.trapReturn {t : State} (hr : Ready s i) (hnext : exec i s = .next t)
    (ht : t.trapReturn = resumed s v k store info bad) : Ready t.trapReturn i := by
  obtain ⟨hinv, hw, htyping, hl⟩ := hr
  have hs := State.inv_iff.mp hinv
  have hreturn : t.trapReturn.Invariant := (hs.ends (exec_ends hw hs.cfg hnext)).applyAction .trapReturn
  refine ⟨State.inv_iff.mpr hreturn, hw, ?_, ?_⟩
  · rw [ht, resumed_typingOk, htyping]
  · rw [ht, resumed_legal, hl]

end Sys2Proof.Claims

namespace Sys2Proof.Machine

open Sys2Proof.Reference Sys2Proof.Claims

/-- Settles O56: the fault leaves the elements below it and its earlier fields moved (`memFaultState`); the return takes the command up at the
faulting element, whose earlier fields are moved again to the same effect (`resumed_sameStores`). -/
theorem resumeIsExact : Obligations.ResumeIsExact := by
  intro s t i a ei fi kind hrow hc hr hei hfi hact hfault hkept hnext hquiet whole
  obtain ⟨hinv, -, -, -⟩ := id hr
  obtain ⟨htraps, -⟩ := memFaultState s i a ei fi kind hrow hc hr hei hfi hact hfault
  obtain ⟨bad, hreturn⟩ := trapReturn_of_traps htraps hnext
  have hready := hr.trapReturn hnext hreturn
  have hquiet' : quiet t.trapReturn := hquiet
  rw [hreturn] at hready hquiet' ⊢
  obtain ⟨bad', hdone⟩ := (exec_accessRows (resumed_accessRows.trans hrow) hready).completes hquiet'
  rw [resumed_loop] at hdone
  have hsame := resumed_sameStores (w := faulted s a ei fi kind) (State.inv_iff.mp hinv) hkept hei hfi hact ⟨rfl, rfl, rfl⟩
  exact ⟨_, hdone, hsame.vrf, hsame.marks, hsame.mem, rfl, rfl, rfl, rfl⟩

end Sys2Proof.Machine
end
